-- ==== Sys2Proof/Config.lean ====
section
/-! DEFINITION. What the spec leaves to the environment: the capacity parameter's type (R10) and the free values, each
an uninterpreted constant that no proof can evaluate. -/

namespace Sys2Proof

/-- OUT_CAP (R10): a natural number of bytes, or `none` for an unbounded buffer. Its value stands in State
(log 5), so that every statement is about every capacity. -/
abbrev Config.Capacity := Option Nat

/-- The byte an IMG address holds that no host write has reached (R383, U11, D34): any value (log 9). -/
opaque Config.imgPowerOn : Nat → BitVec 8

/-- The byte an OUT address holds that no append has reached (R53, R59): any value, never host-readable (log 8). -/
opaque Config.outPowerOn : Nat → BitVec 8

/-- Which of the bytes involved a sample read sees when the host wrote that sample during the encode (R97, U7): any
choice. The arguments are a draw number and the address (log 10). -/
opaque Config.tornPick : Nat → Nat → Nat

end Sys2Proof
end

