-- ==== Sys2Proof/Word.lean ====
section
/-! DEFINITION. The block's word forms: bytes, Huffman codewords, the formats of R110 in which an operation or an
emitted pattern is written, and the exact reals that COEF and QUO hold (R46, R198). -/

namespace Sys2Proof

/-- A byte (R13). -/
abbrev Byte := BitVec 8

/-- A Huffman codeword: the `len` low bits of `code`, most significant first (R121). -/
structure Codeword where
  code : Nat
  len : Nat
deriving DecidableEq, Repr

/-- The formats of R110 that a sub-operation or an emitted pattern takes. CALL has no code of its own: a
sub-operation is invoked by name with its operands. HUFF_DC and HUFF_AC are written in emission order: the
codeword, then the MAG field its category calls for (R120). -/
inductive SubCode where
  | seqDone
  | bwWrite (bits nbits : Nat)
  | outAppend (byte : Byte)
  | marker (word : BitVec 16)
  | stuff (word : BitVec 16)
  | huffDc (bits : List Bool)
  | huffAc (bits : List Bool)
deriving DecidableEq, Repr

/-- What the decoder reads: a REG write (HOST), a PHASE code (UOP), or one of the other formats (R110). -/
inductive Code where
  | host (offset : BitVec 8) (data : BitVec 32)
  | uop (phase : BitVec 5)
  | sub (c : SubCode)
deriving DecidableEq, Repr

/-- An integer combination `c0·cos(0) + c1·cos(π/16) + ... + c7·cos(7π/16)` (R198). -/
structure Cos8 where
  c0 : Int
  c1 : Int
  c2 : Int
  c3 : Int
  c4 : Int
  c5 : Int
  c6 : Int
  c7 : Int
deriving DecidableEq, Repr

/-- An exact real of the field Q(cos(π/16)): `num / den` (R46, R198). `den = 0` stands for no number; no operation
forms one, and it reads as 0. -/
structure ExactReal where
  num : Cos8
  den : Nat
deriving DecidableEq, Repr

end Sys2Proof
end

