-- ==== Sys2Proof/Machine/Rom.lean ====
section
/-! DEFINITION. The block's read-only tables (R54, R86), as the spec lists them. DCTK, the eight real constants, stands
in Machine/Exact.lean beside the arithmetic it is written in. -/

namespace Sys2Proof.Machine.Rom

/-- BASE[0..63] (R164). -/
def base : Vector Nat 64 := #v[16, 11, 12, 14, 12, 10, 16, 14, 13, 14, 18, 17, 16, 19, 24, 40,
  26, 24, 22, 22, 24, 49, 35, 37, 29, 40, 58, 51, 61, 60, 57, 51,
  56, 55, 64, 72, 92, 78, 64, 68, 87, 69, 55, 56, 80, 109, 81, 87,
  95, 98, 103, 104, 103, 62, 77, 113, 121, 112, 100, 120, 92, 101, 103, 99]

/-- ZIGZAG[0..63]: the row-major index at each zigzag position (R213). -/
def zigzag : Vector (Fin 64) 64 := #v[0, 1, 8, 16, 9, 2, 3, 10, 17, 24, 32, 25, 18, 11, 4, 5,
  12, 19, 26, 33, 40, 48, 41, 34, 27, 20, 13, 6, 7, 14, 21, 28,
  35, 42, 49, 56, 57, 50, 43, 36, 29, 22, 15, 23, 30, 37, 44, 51,
  58, 59, 52, 45, 38, 31, 39, 46, 53, 60, 61, 54, 47, 55, 62, 63]

/-- DC_COUNTS[1..16] (R122). -/
def dcCounts : List Nat := [0, 1, 5, 1, 1, 1, 1, 1, 1, 0, 0, 0, 0, 0, 0, 0]

/-- DC_SYMS[0..11] (R122). -/
def dcSyms : List Nat := [0, 1, 2, 3, 4, 5, 6, 7, 8, 9, 10, 11]

/-- AC_COUNTS[1..16] (R123). -/
def acCounts : List Nat := [0, 2, 1, 3, 3, 2, 4, 3, 5, 5, 4, 4, 0, 0, 1, 0x7D]

/-- AC_SYMS[0..161] (R123). -/
def acSyms : List Nat :=
  [0x01, 0x02, 0x03, 0x00, 0x04, 0x11, 0x05, 0x12, 0x21, 0x31, 0x41, 0x06, 0x13, 0x51, 0x61, 0x07] ++
  [0x22, 0x71, 0x14, 0x32, 0x81, 0x91, 0xA1, 0x08, 0x23, 0x42, 0xB1, 0xC1, 0x15, 0x52, 0xD1, 0xF0] ++
  [0x24, 0x33, 0x62, 0x72, 0x82, 0x09, 0x0A, 0x16, 0x17, 0x18, 0x19, 0x1A, 0x25, 0x26, 0x27, 0x28] ++
  [0x29, 0x2A, 0x34, 0x35, 0x36, 0x37, 0x38, 0x39, 0x3A, 0x43, 0x44, 0x45, 0x46, 0x47, 0x48, 0x49] ++
  [0x4A, 0x53, 0x54, 0x55, 0x56, 0x57, 0x58, 0x59, 0x5A, 0x63, 0x64, 0x65, 0x66, 0x67, 0x68, 0x69] ++
  [0x6A, 0x73, 0x74, 0x75, 0x76, 0x77, 0x78, 0x79, 0x7A, 0x83, 0x84, 0x85, 0x86, 0x87, 0x88, 0x89] ++
  [0x8A, 0x92, 0x93, 0x94, 0x95, 0x96, 0x97, 0x98, 0x99, 0x9A, 0xA2, 0xA3, 0xA4, 0xA5, 0xA6, 0xA7] ++
  [0xA8, 0xA9, 0xAA, 0xB2, 0xB3, 0xB4, 0xB5, 0xB6, 0xB7, 0xB8, 0xB9, 0xBA, 0xC2, 0xC3, 0xC4, 0xC5] ++
  [0xC6, 0xC7, 0xC8, 0xC9, 0xCA, 0xD2, 0xD3, 0xD4, 0xD5, 0xD6, 0xD7, 0xD8, 0xD9, 0xDA, 0xE1, 0xE2] ++
  [0xE3, 0xE4, 0xE5, 0xE6, 0xE7, 0xE8, 0xE9, 0xEA, 0xF1, 0xF2, 0xF3, 0xF4, 0xF5, 0xF6, 0xF7, 0xF8] ++
  [0xF9, 0xFA]

/-- The canonical code of a table (R121): codes are assigned in list order, shortest first, one more within a length,
doubled from one length to the next. -/
def canonicalFrom : List Nat → Nat → Nat → List Nat → List (Nat × Codeword)
  | [], _, _, _ => []
  | n :: counts, len, code, syms =>
    (syms.take n).zipIdx.map (fun p => (p.1, ⟨code + p.2, len⟩)) ++
      canonicalFrom counts (len + 1) ((code + n) * 2) (syms.drop n)

/-- The canonical code of a table given by COUNTS[1..16] and SYMS (R121). -/
def canonical (counts syms : List Nat) : List (Nat × Codeword) := canonicalFrom counts 1 0 syms

/-- DCHUFF[0..11]: (category, codeword) (R122). -/
def dcHuff : List (Nat × Codeword) :=
  [(0, ⟨0b00, 2⟩), (1, ⟨0b010, 3⟩), (2, ⟨0b011, 3⟩), (3, ⟨0b100, 3⟩),
   (4, ⟨0b101, 3⟩), (5, ⟨0b110, 3⟩), (6, ⟨0b1110, 4⟩), (7, ⟨0b11110, 5⟩),
   (8, ⟨0b111110, 6⟩), (9, ⟨0b1111110, 7⟩), (10, ⟨0b11111110, 8⟩), (11, ⟨0b111111110, 9⟩)]


/-- ACHUFF, the symbols of run 0 (R124). -/
def acHuffRun0 : List (Nat × Codeword) :=
  [(0x00, ⟨0b1010, 4⟩), (0x01, ⟨0b00, 2⟩), (0x02, ⟨0b01, 2⟩), (0x03, ⟨0b100, 3⟩),
   (0x04, ⟨0b1011, 4⟩), (0x05, ⟨0b11010, 5⟩), (0x06, ⟨0b1111000, 7⟩), (0x07, ⟨0b11111000, 8⟩),
   (0x08, ⟨0b1111110110, 10⟩), (0x09, ⟨0b1111111110000010, 16⟩), (0x0A, ⟨0b1111111110000011, 16⟩)]

/-- ACHUFF, the symbols of run 1 (R124). -/
def acHuffRun1 : List (Nat × Codeword) :=
  [(0x11, ⟨0b1100, 4⟩), (0x12, ⟨0b11011, 5⟩), (0x13, ⟨0b1111001, 7⟩), (0x14, ⟨0b111110110, 9⟩),
   (0x15, ⟨0b11111110110, 11⟩), (0x16, ⟨0b1111111110000100, 16⟩), (0x17, ⟨0b1111111110000101, 16⟩), (0x18, ⟨0b1111111110000110, 16⟩),
   (0x19, ⟨0b1111111110000111, 16⟩), (0x1A, ⟨0b1111111110001000, 16⟩)]

/-- ACHUFF, the symbols of run 2 (R124). -/
def acHuffRun2 : List (Nat × Codeword) :=
  [(0x21, ⟨0b11100, 5⟩), (0x22, ⟨0b11111001, 8⟩), (0x23, ⟨0b1111110111, 10⟩), (0x24, ⟨0b111111110100, 12⟩),
   (0x25, ⟨0b1111111110001001, 16⟩), (0x26, ⟨0b1111111110001010, 16⟩), (0x27, ⟨0b1111111110001011, 16⟩), (0x28, ⟨0b1111111110001100, 16⟩),
   (0x29, ⟨0b1111111110001101, 16⟩), (0x2A, ⟨0b1111111110001110, 16⟩)]

/-- ACHUFF, the symbols of run 3 (R124). -/
def acHuffRun3 : List (Nat × Codeword) :=
  [(0x31, ⟨0b111010, 6⟩), (0x32, ⟨0b111110111, 9⟩), (0x33, ⟨0b111111110101, 12⟩), (0x34, ⟨0b1111111110001111, 16⟩),
   (0x35, ⟨0b1111111110010000, 16⟩), (0x36, ⟨0b1111111110010001, 16⟩), (0x37, ⟨0b1111111110010010, 16⟩), (0x38, ⟨0b1111111110010011, 16⟩),
   (0x39, ⟨0b1111111110010100, 16⟩), (0x3A, ⟨0b1111111110010101, 16⟩)]

/-- ACHUFF, the symbols of run 4 (R124). -/
def acHuffRun4 : List (Nat × Codeword) :=
  [(0x41, ⟨0b111011, 6⟩), (0x42, ⟨0b1111111000, 10⟩), (0x43, ⟨0b1111111110010110, 16⟩), (0x44, ⟨0b1111111110010111, 16⟩),
   (0x45, ⟨0b1111111110011000, 16⟩), (0x46, ⟨0b1111111110011001, 16⟩), (0x47, ⟨0b1111111110011010, 16⟩), (0x48, ⟨0b1111111110011011, 16⟩),
   (0x49, ⟨0b1111111110011100, 16⟩), (0x4A, ⟨0b1111111110011101, 16⟩)]

/-- ACHUFF, the symbols of run 5 (R124). -/
def acHuffRun5 : List (Nat × Codeword) :=
  [(0x51, ⟨0b1111010, 7⟩), (0x52, ⟨0b11111110111, 11⟩), (0x53, ⟨0b1111111110011110, 16⟩), (0x54, ⟨0b1111111110011111, 16⟩),
   (0x55, ⟨0b1111111110100000, 16⟩), (0x56, ⟨0b1111111110100001, 16⟩), (0x57, ⟨0b1111111110100010, 16⟩), (0x58, ⟨0b1111111110100011, 16⟩),
   (0x59, ⟨0b1111111110100100, 16⟩), (0x5A, ⟨0b1111111110100101, 16⟩)]

/-- ACHUFF, the symbols of run 6 (R124). -/
def acHuffRun6 : List (Nat × Codeword) :=
  [(0x61, ⟨0b1111011, 7⟩), (0x62, ⟨0b111111110110, 12⟩), (0x63, ⟨0b1111111110100110, 16⟩), (0x64, ⟨0b1111111110100111, 16⟩),
   (0x65, ⟨0b1111111110101000, 16⟩), (0x66, ⟨0b1111111110101001, 16⟩), (0x67, ⟨0b1111111110101010, 16⟩), (0x68, ⟨0b1111111110101011, 16⟩),
   (0x69, ⟨0b1111111110101100, 16⟩), (0x6A, ⟨0b1111111110101101, 16⟩)]

/-- ACHUFF, the symbols of run 7 (R124). -/
def acHuffRun7 : List (Nat × Codeword) :=
  [(0x71, ⟨0b11111010, 8⟩), (0x72, ⟨0b111111110111, 12⟩), (0x73, ⟨0b1111111110101110, 16⟩), (0x74, ⟨0b1111111110101111, 16⟩),
   (0x75, ⟨0b1111111110110000, 16⟩), (0x76, ⟨0b1111111110110001, 16⟩), (0x77, ⟨0b1111111110110010, 16⟩), (0x78, ⟨0b1111111110110011, 16⟩),
   (0x79, ⟨0b1111111110110100, 16⟩), (0x7A, ⟨0b1111111110110101, 16⟩)]

/-- ACHUFF, the symbols of run 8 (R124). -/
def acHuffRun8 : List (Nat × Codeword) :=
  [(0x81, ⟨0b111111000, 9⟩), (0x82, ⟨0b111111111000000, 15⟩), (0x83, ⟨0b1111111110110110, 16⟩), (0x84, ⟨0b1111111110110111, 16⟩),
   (0x85, ⟨0b1111111110111000, 16⟩), (0x86, ⟨0b1111111110111001, 16⟩), (0x87, ⟨0b1111111110111010, 16⟩), (0x88, ⟨0b1111111110111011, 16⟩),
   (0x89, ⟨0b1111111110111100, 16⟩), (0x8A, ⟨0b1111111110111101, 16⟩)]

/-- ACHUFF, the symbols of run 9 (R124). -/
def acHuffRun9 : List (Nat × Codeword) :=
  [(0x91, ⟨0b111111001, 9⟩), (0x92, ⟨0b1111111110111110, 16⟩), (0x93, ⟨0b1111111110111111, 16⟩), (0x94, ⟨0b1111111111000000, 16⟩),
   (0x95, ⟨0b1111111111000001, 16⟩), (0x96, ⟨0b1111111111000010, 16⟩), (0x97, ⟨0b1111111111000011, 16⟩), (0x98, ⟨0b1111111111000100, 16⟩),
   (0x99, ⟨0b1111111111000101, 16⟩), (0x9A, ⟨0b1111111111000110, 16⟩)]

/-- ACHUFF, the symbols of run 10 (R124). -/
def acHuffRun10 : List (Nat × Codeword) :=
  [(0xA1, ⟨0b111111010, 9⟩), (0xA2, ⟨0b1111111111000111, 16⟩), (0xA3, ⟨0b1111111111001000, 16⟩), (0xA4, ⟨0b1111111111001001, 16⟩),
   (0xA5, ⟨0b1111111111001010, 16⟩), (0xA6, ⟨0b1111111111001011, 16⟩), (0xA7, ⟨0b1111111111001100, 16⟩), (0xA8, ⟨0b1111111111001101, 16⟩),
   (0xA9, ⟨0b1111111111001110, 16⟩), (0xAA, ⟨0b1111111111001111, 16⟩)]

/-- ACHUFF, the symbols of run 11 (R124). -/
def acHuffRun11 : List (Nat × Codeword) :=
  [(0xB1, ⟨0b1111111001, 10⟩), (0xB2, ⟨0b1111111111010000, 16⟩), (0xB3, ⟨0b1111111111010001, 16⟩), (0xB4, ⟨0b1111111111010010, 16⟩),
   (0xB5, ⟨0b1111111111010011, 16⟩), (0xB6, ⟨0b1111111111010100, 16⟩), (0xB7, ⟨0b1111111111010101, 16⟩), (0xB8, ⟨0b1111111111010110, 16⟩),
   (0xB9, ⟨0b1111111111010111, 16⟩), (0xBA, ⟨0b1111111111011000, 16⟩)]

/-- ACHUFF, the symbols of run 12 (R124). -/
def acHuffRun12 : List (Nat × Codeword) :=
  [(0xC1, ⟨0b1111111010, 10⟩), (0xC2, ⟨0b1111111111011001, 16⟩), (0xC3, ⟨0b1111111111011010, 16⟩), (0xC4, ⟨0b1111111111011011, 16⟩),
   (0xC5, ⟨0b1111111111011100, 16⟩), (0xC6, ⟨0b1111111111011101, 16⟩), (0xC7, ⟨0b1111111111011110, 16⟩), (0xC8, ⟨0b1111111111011111, 16⟩),
   (0xC9, ⟨0b1111111111100000, 16⟩), (0xCA, ⟨0b1111111111100001, 16⟩)]

/-- ACHUFF, the symbols of run 13 (R124). -/
def acHuffRun13 : List (Nat × Codeword) :=
  [(0xD1, ⟨0b11111111000, 11⟩), (0xD2, ⟨0b1111111111100010, 16⟩), (0xD3, ⟨0b1111111111100011, 16⟩), (0xD4, ⟨0b1111111111100100, 16⟩),
   (0xD5, ⟨0b1111111111100101, 16⟩), (0xD6, ⟨0b1111111111100110, 16⟩), (0xD7, ⟨0b1111111111100111, 16⟩), (0xD8, ⟨0b1111111111101000, 16⟩),
   (0xD9, ⟨0b1111111111101001, 16⟩), (0xDA, ⟨0b1111111111101010, 16⟩)]

/-- ACHUFF, the symbols of run 14 (R124). -/
def acHuffRun14 : List (Nat × Codeword) :=
  [(0xE1, ⟨0b1111111111101011, 16⟩), (0xE2, ⟨0b1111111111101100, 16⟩), (0xE3, ⟨0b1111111111101101, 16⟩), (0xE4, ⟨0b1111111111101110, 16⟩),
   (0xE5, ⟨0b1111111111101111, 16⟩), (0xE6, ⟨0b1111111111110000, 16⟩), (0xE7, ⟨0b1111111111110001, 16⟩), (0xE8, ⟨0b1111111111110010, 16⟩),
   (0xE9, ⟨0b1111111111110011, 16⟩), (0xEA, ⟨0b1111111111110100, 16⟩)]

/-- ACHUFF, the symbols of run 15 (R124). -/
def acHuffRun15 : List (Nat × Codeword) :=
  [(0xF0, ⟨0b11111111001, 11⟩), (0xF1, ⟨0b1111111111110101, 16⟩), (0xF2, ⟨0b1111111111110110, 16⟩), (0xF3, ⟨0b1111111111110111, 16⟩),
   (0xF4, ⟨0b1111111111111000, 16⟩), (0xF5, ⟨0b1111111111111001, 16⟩), (0xF6, ⟨0b1111111111111010, 16⟩), (0xF7, ⟨0b1111111111111011, 16⟩),
   (0xF8, ⟨0b1111111111111100, 16⟩), (0xF9, ⟨0b1111111111111101, 16⟩), (0xFA, ⟨0b1111111111111110, 16⟩)]

/-- ACHUFF: (symbol byte, codeword), all 162 (R124). -/
def acHuff : List (Nat × Codeword) :=
  acHuffRun0 ++ acHuffRun1 ++ acHuffRun2 ++ acHuffRun3 ++ acHuffRun4 ++ acHuffRun5 ++ acHuffRun6 ++ acHuffRun7 ++
  acHuffRun8 ++ acHuffRun9 ++ acHuffRun10 ++ acHuffRun11 ++ acHuffRun12 ++ acHuffRun13 ++ acHuffRun14 ++ acHuffRun15

end Sys2Proof.Machine.Rom
end

