-- ==== Sys2Proof/Syntax.lean ====
section
/-! DEFINITION. The closed set of operations and emitted patterns: one constructor per row of spec/opcode_table.json
(R134), in the table's order. -/

namespace Sys2Proof

/-- An operation of the block, or a pattern it emits. The DC and AC rows carry the magnitude bits that follow their
codeword (R120, R126) as operand `mag`; ENCODE carries the 31 data bits the command ignores (R111). -/
inductive Instr where
  /-- ENCODE (R310). -/
  | encode (ignored : BitVec 31)
  /-- SEQ.CHECK (R311). -/
  | seqCheck
  /-- QTB.BUILD (R160). -/
  | qtbBuild
  /-- HDR.SOI (R282). -/
  | hdrSoi
  /-- HDR.APP0 (R283). -/
  | hdrApp0
  /-- HDR.DQT (R284). -/
  | hdrDqt
  /-- HDR.SOF0 (R285). -/
  | hdrSof0
  /-- HDR.DHT_DC (R286). -/
  | hdrDhtDc
  /-- HDR.DHT_AC (R287). -/
  | hdrDhtAc
  /-- HDR.SOS (R288). -/
  | hdrSos
  /-- BLK.FETCH (R182). -/
  | blkFetch
  /-- FDCT (R190). -/
  | fdct
  /-- QUANT (R211). -/
  | quant
  /-- ZIGZAG (R214). -/
  | zigzag
  /-- ENT.DC (R232). -/
  | entDc
  /-- ENT.AC (R236). -/
  | entAc
  /-- ENT.EOB (R240). -/
  | entEob
  /-- BLK.NEXT (R183). -/
  | blkNext
  /-- BW.FINALIZE (R264). -/
  | bwFinalize
  /-- HDR.EOI (R289). -/
  | hdrEoi
  /-- SEQ.DONE (R314). -/
  | seqDone
  /-- BW.WRITE (R261). -/
  | bwWrite (bits : Nat) (nbits : Nat)
  /-- OUT.APPEND (R266). -/
  | outAppend (byte : Byte)
  /-- MARKER.SOI (R113). -/
  | markerSoi
  /-- MARKER.APP0 (R113). -/
  | markerApp0
  /-- MARKER.DQT (R113). -/
  | markerDqt
  /-- MARKER.SOF0 (R113). -/
  | markerSof0
  /-- MARKER.DHT (R113). -/
  | markerDht
  /-- MARKER.SOS (R113). -/
  | markerSos
  /-- MARKER.EOI (R113). -/
  | markerEoi
  /-- STUFF (R128). -/
  | stuff
  | dcCat0
  | dcCat1 (mag : BitVec 1)
  | dcCat2 (mag : BitVec 2)
  | dcCat3 (mag : BitVec 3)
  | dcCat4 (mag : BitVec 4)
  | dcCat5 (mag : BitVec 5)
  | dcCat6 (mag : BitVec 6)
  | dcCat7 (mag : BitVec 7)
  | dcCat8 (mag : BitVec 8)
  | dcCat9 (mag : BitVec 9)
  | dcCat10 (mag : BitVec 10)
  | dcCat11 (mag : BitVec 11)
  /-- AC.EOB (R124). -/
  | acEob
  | acR0S1 (mag : BitVec 1)
  | acR0S2 (mag : BitVec 2)
  | acR0S3 (mag : BitVec 3)
  | acR0S4 (mag : BitVec 4)
  | acR0S5 (mag : BitVec 5)
  | acR0S6 (mag : BitVec 6)
  | acR0S7 (mag : BitVec 7)
  | acR0S8 (mag : BitVec 8)
  | acR0S9 (mag : BitVec 9)
  | acR0S10 (mag : BitVec 10)
  | acR1S1 (mag : BitVec 1)
  | acR1S2 (mag : BitVec 2)
  | acR1S3 (mag : BitVec 3)
  | acR1S4 (mag : BitVec 4)
  | acR1S5 (mag : BitVec 5)
  | acR1S6 (mag : BitVec 6)
  | acR1S7 (mag : BitVec 7)
  | acR1S8 (mag : BitVec 8)
  | acR1S9 (mag : BitVec 9)
  | acR1S10 (mag : BitVec 10)
  | acR2S1 (mag : BitVec 1)
  | acR2S2 (mag : BitVec 2)
  | acR2S3 (mag : BitVec 3)
  | acR2S4 (mag : BitVec 4)
  | acR2S5 (mag : BitVec 5)
  | acR2S6 (mag : BitVec 6)
  | acR2S7 (mag : BitVec 7)
  | acR2S8 (mag : BitVec 8)
  | acR2S9 (mag : BitVec 9)
  | acR2S10 (mag : BitVec 10)
  | acR3S1 (mag : BitVec 1)
  | acR3S2 (mag : BitVec 2)
  | acR3S3 (mag : BitVec 3)
  | acR3S4 (mag : BitVec 4)
  | acR3S5 (mag : BitVec 5)
  | acR3S6 (mag : BitVec 6)
  | acR3S7 (mag : BitVec 7)
  | acR3S8 (mag : BitVec 8)
  | acR3S9 (mag : BitVec 9)
  | acR3S10 (mag : BitVec 10)
  | acR4S1 (mag : BitVec 1)
  | acR4S2 (mag : BitVec 2)
  | acR4S3 (mag : BitVec 3)
  | acR4S4 (mag : BitVec 4)
  | acR4S5 (mag : BitVec 5)
  | acR4S6 (mag : BitVec 6)
  | acR4S7 (mag : BitVec 7)
  | acR4S8 (mag : BitVec 8)
  | acR4S9 (mag : BitVec 9)
  | acR4S10 (mag : BitVec 10)
  | acR5S1 (mag : BitVec 1)
  | acR5S2 (mag : BitVec 2)
  | acR5S3 (mag : BitVec 3)
  | acR5S4 (mag : BitVec 4)
  | acR5S5 (mag : BitVec 5)
  | acR5S6 (mag : BitVec 6)
  | acR5S7 (mag : BitVec 7)
  | acR5S8 (mag : BitVec 8)
  | acR5S9 (mag : BitVec 9)
  | acR5S10 (mag : BitVec 10)
  | acR6S1 (mag : BitVec 1)
  | acR6S2 (mag : BitVec 2)
  | acR6S3 (mag : BitVec 3)
  | acR6S4 (mag : BitVec 4)
  | acR6S5 (mag : BitVec 5)
  | acR6S6 (mag : BitVec 6)
  | acR6S7 (mag : BitVec 7)
  | acR6S8 (mag : BitVec 8)
  | acR6S9 (mag : BitVec 9)
  | acR6S10 (mag : BitVec 10)
  | acR7S1 (mag : BitVec 1)
  | acR7S2 (mag : BitVec 2)
  | acR7S3 (mag : BitVec 3)
  | acR7S4 (mag : BitVec 4)
  | acR7S5 (mag : BitVec 5)
  | acR7S6 (mag : BitVec 6)
  | acR7S7 (mag : BitVec 7)
  | acR7S8 (mag : BitVec 8)
  | acR7S9 (mag : BitVec 9)
  | acR7S10 (mag : BitVec 10)
  | acR8S1 (mag : BitVec 1)
  | acR8S2 (mag : BitVec 2)
  | acR8S3 (mag : BitVec 3)
  | acR8S4 (mag : BitVec 4)
  | acR8S5 (mag : BitVec 5)
  | acR8S6 (mag : BitVec 6)
  | acR8S7 (mag : BitVec 7)
  | acR8S8 (mag : BitVec 8)
  | acR8S9 (mag : BitVec 9)
  | acR8S10 (mag : BitVec 10)
  | acR9S1 (mag : BitVec 1)
  | acR9S2 (mag : BitVec 2)
  | acR9S3 (mag : BitVec 3)
  | acR9S4 (mag : BitVec 4)
  | acR9S5 (mag : BitVec 5)
  | acR9S6 (mag : BitVec 6)
  | acR9S7 (mag : BitVec 7)
  | acR9S8 (mag : BitVec 8)
  | acR9S9 (mag : BitVec 9)
  | acR9S10 (mag : BitVec 10)
  | acR10S1 (mag : BitVec 1)
  | acR10S2 (mag : BitVec 2)
  | acR10S3 (mag : BitVec 3)
  | acR10S4 (mag : BitVec 4)
  | acR10S5 (mag : BitVec 5)
  | acR10S6 (mag : BitVec 6)
  | acR10S7 (mag : BitVec 7)
  | acR10S8 (mag : BitVec 8)
  | acR10S9 (mag : BitVec 9)
  | acR10S10 (mag : BitVec 10)
  | acR11S1 (mag : BitVec 1)
  | acR11S2 (mag : BitVec 2)
  | acR11S3 (mag : BitVec 3)
  | acR11S4 (mag : BitVec 4)
  | acR11S5 (mag : BitVec 5)
  | acR11S6 (mag : BitVec 6)
  | acR11S7 (mag : BitVec 7)
  | acR11S8 (mag : BitVec 8)
  | acR11S9 (mag : BitVec 9)
  | acR11S10 (mag : BitVec 10)
  | acR12S1 (mag : BitVec 1)
  | acR12S2 (mag : BitVec 2)
  | acR12S3 (mag : BitVec 3)
  | acR12S4 (mag : BitVec 4)
  | acR12S5 (mag : BitVec 5)
  | acR12S6 (mag : BitVec 6)
  | acR12S7 (mag : BitVec 7)
  | acR12S8 (mag : BitVec 8)
  | acR12S9 (mag : BitVec 9)
  | acR12S10 (mag : BitVec 10)
  | acR13S1 (mag : BitVec 1)
  | acR13S2 (mag : BitVec 2)
  | acR13S3 (mag : BitVec 3)
  | acR13S4 (mag : BitVec 4)
  | acR13S5 (mag : BitVec 5)
  | acR13S6 (mag : BitVec 6)
  | acR13S7 (mag : BitVec 7)
  | acR13S8 (mag : BitVec 8)
  | acR13S9 (mag : BitVec 9)
  | acR13S10 (mag : BitVec 10)
  | acR14S1 (mag : BitVec 1)
  | acR14S2 (mag : BitVec 2)
  | acR14S3 (mag : BitVec 3)
  | acR14S4 (mag : BitVec 4)
  | acR14S5 (mag : BitVec 5)
  | acR14S6 (mag : BitVec 6)
  | acR14S7 (mag : BitVec 7)
  | acR14S8 (mag : BitVec 8)
  | acR14S9 (mag : BitVec 9)
  | acR14S10 (mag : BitVec 10)
  /-- AC.ZRL (R124). -/
  | acZrl
  | acR15S1 (mag : BitVec 1)
  | acR15S2 (mag : BitVec 2)
  | acR15S3 (mag : BitVec 3)
  | acR15S4 (mag : BitVec 4)
  | acR15S5 (mag : BitVec 5)
  | acR15S6 (mag : BitVec 6)
  | acR15S7 (mag : BitVec 7)
  | acR15S8 (mag : BitVec 8)
  | acR15S9 (mag : BitVec 9)
  | acR15S10 (mag : BitVec 10)
deriving DecidableEq, Repr

end Sys2Proof
end

