-- ==== Sys2Proof/WellFormed.lean ====
section
/-! DEFINITION. Well-formedness of an operation: the one check that its operands' types do not make. -/

namespace Sys2Proof

/-- BW.WRITE takes `nbits` in 1..16 (R261). Every other row's operands are well-formed by their types, so the one
check has one arm. -/
def Instr.wellFormed : Instr → Bool
  | .bwWrite _ nbits => decide (1 ≤ nbits) && decide (nbits ≤ 16)
  | _ => true

end Sys2Proof
end

