-- ==== Sys2Proof/Decode.lean ====
section
/-! DEFINITION. The decoder, total on every code of every format and rejecting by name, and the encoder, both written
from the encoding tables of 30_encoding.md (R110 to R130). -/

namespace Sys2Proof

open Machine

/-! ## Bit strings -/

/-- The `n` low bits of `v`, most significant first (R13, R88). -/
def natBits : Nat → Nat → List Bool
  | 0, _ => []
  | n + 1, v => v.testBit n :: natBits n v

/-- The number a bit string stands for, first bit most significant (R16). -/
def bitsNat (bs : List Bool) : Nat := bs.foldl (fun acc b => 2 * acc + b.toNat) 0

/-! ## Decoding -/

/-- Why a code is no operation. -/
inductive DecodeError where
  /-- a REG write that is not the ENCODE command (R111) -/
  | notACommand
  /-- PHASE codes 0, 20 and 21: the sequencer executes nothing (R112) -/
  | quiescentPhase
  /-- PHASE codes 22 to 31 (R130) -/
  | reservedPhase
  /-- a 16-bit word that is none of the seven markers (R113, R131) -/
  | unknownMarker
  /-- a 16-bit word that is not FF 00 (R128) -/
  | notStuff
  /-- no codeword of the table begins the bit string (R129) -/
  | noCodeword
  /-- the bit string ends inside the magnitude field (R135) -/
  | magTruncated
  /-- bits follow the coded item -/
  | trailingBits
  /-- BW.WRITE with nbits outside 1..16 (R261) -/
  | badNbits
deriving DecidableEq, Repr

/-- HOST: offset 0x00 with data bit 0 set is ENCODE; data bits 31..1 are ignored (R111). -/
def decodeHost (offset : BitVec 8) (data : BitVec 32) : Except DecodeError Instr :=
  if offset = 0x00#8 && data.getLsbD 0 then .ok (.encode (data.extractLsb' 1 31)) else .error .notACommand

/-- UOP: the PHASE codes (R112). -/
def decodeUop (phase : BitVec 5) : Except DecodeError Instr :=
  match phase.toNat with
  | 0 => .error .quiescentPhase
  | 1 => .ok .seqCheck
  | 2 => .ok .qtbBuild
  | 3 => .ok .hdrSoi
  | 4 => .ok .hdrApp0
  | 5 => .ok .hdrDqt
  | 6 => .ok .hdrSof0
  | 7 => .ok .hdrDhtDc
  | 8 => .ok .hdrDhtAc
  | 9 => .ok .hdrSos
  | 10 => .ok .blkFetch
  | 11 => .ok .fdct
  | 12 => .ok .quant
  | 13 => .ok .zigzag
  | 14 => .ok .entDc
  | 15 => .ok .entAc
  | 16 => .ok .entEob
  | 17 => .ok .blkNext
  | 18 => .ok .bwFinalize
  | 19 => .ok .hdrEoi
  | 20 => .error .quiescentPhase
  | 21 => .error .quiescentPhase
  | _ => .error .reservedPhase

/-- MARKER: the seven marker codes (R113). -/
def decodeMarker (word : BitVec 16) : Except DecodeError Instr :=
  if word = 0xFFD8#16 then .ok .markerSoi
  else if word = 0xFFE0#16 then .ok .markerApp0
  else if word = 0xFFDB#16 then .ok .markerDqt
  else if word = 0xFFC0#16 then .ok .markerSof0
  else if word = 0xFFC4#16 then .ok .markerDht
  else if word = 0xFFDA#16 then .ok .markerSos
  else if word = 0xFFD9#16 then .ok .markerEoi
  else .error .unknownMarker

/-- STUFF: FF 00 (R128). -/
def decodeStuff (word : BitVec 16) : Except DecodeError Instr :=
  if word = 0xFF00#16 then .ok .stuff else .error .notStuff

/-- The table entry whose codeword begins the bit string, and the bits after it (R135). -/
def matchPrefix : List (Nat × Codeword) → List Bool → Option (Nat × List Bool)
  | [], _ => none
  | (symbol, cw) :: table, bs =>
    if (natBits cw.len cw.code).isPrefixOf bs then some (symbol, bs.drop cw.len) else matchPrefix table bs

/-- The DC row of a category with its magnitude bits as a number (R122, R126). -/
def dcRow (category mag : Nat) : Option Instr :=
  match category with
  | 0 => some .dcCat0
  | 1 => some (.dcCat1 (BitVec.ofNat 1 mag))
  | 2 => some (.dcCat2 (BitVec.ofNat 2 mag))
  | 3 => some (.dcCat3 (BitVec.ofNat 3 mag))
  | 4 => some (.dcCat4 (BitVec.ofNat 4 mag))
  | 5 => some (.dcCat5 (BitVec.ofNat 5 mag))
  | 6 => some (.dcCat6 (BitVec.ofNat 6 mag))
  | 7 => some (.dcCat7 (BitVec.ofNat 7 mag))
  | 8 => some (.dcCat8 (BitVec.ofNat 8 mag))
  | 9 => some (.dcCat9 (BitVec.ofNat 9 mag))
  | 10 => some (.dcCat10 (BitVec.ofNat 10 mag))
  | 11 => some (.dcCat11 (BitVec.ofNat 11 mag))
  | _ => none

/-- The AC rows of run 0, by size: each made from its magnitude bits as a number (R124, R126). -/
def acRowsRun0 (mag : Nat) : List (Nat × Instr) :=
  [(0x00, .acEob), (0x01, .acR0S1 (BitVec.ofNat 1 mag)), (0x02, .acR0S2 (BitVec.ofNat 2 mag)),
   (0x03, .acR0S3 (BitVec.ofNat 3 mag)), (0x04, .acR0S4 (BitVec.ofNat 4 mag)), (0x05, .acR0S5 (BitVec.ofNat 5 mag)),
   (0x06, .acR0S6 (BitVec.ofNat 6 mag)), (0x07, .acR0S7 (BitVec.ofNat 7 mag)), (0x08, .acR0S8 (BitVec.ofNat 8 mag)),
   (0x09, .acR0S9 (BitVec.ofNat 9 mag)), (0x0A, .acR0S10 (BitVec.ofNat 10 mag))]

/-- The AC rows of run 1, by size: each made from its magnitude bits as a number (R124, R126). -/
def acRowsRun1 (mag : Nat) : List (Nat × Instr) :=
  [(0x11, .acR1S1 (BitVec.ofNat 1 mag)), (0x12, .acR1S2 (BitVec.ofNat 2 mag)), (0x13, .acR1S3 (BitVec.ofNat 3 mag)),
   (0x14, .acR1S4 (BitVec.ofNat 4 mag)), (0x15, .acR1S5 (BitVec.ofNat 5 mag)), (0x16, .acR1S6 (BitVec.ofNat 6 mag)),
   (0x17, .acR1S7 (BitVec.ofNat 7 mag)), (0x18, .acR1S8 (BitVec.ofNat 8 mag)), (0x19, .acR1S9 (BitVec.ofNat 9 mag)),
   (0x1A, .acR1S10 (BitVec.ofNat 10 mag))]

/-- The AC rows of run 2, by size: each made from its magnitude bits as a number (R124, R126). -/
def acRowsRun2 (mag : Nat) : List (Nat × Instr) :=
  [(0x21, .acR2S1 (BitVec.ofNat 1 mag)), (0x22, .acR2S2 (BitVec.ofNat 2 mag)), (0x23, .acR2S3 (BitVec.ofNat 3 mag)),
   (0x24, .acR2S4 (BitVec.ofNat 4 mag)), (0x25, .acR2S5 (BitVec.ofNat 5 mag)), (0x26, .acR2S6 (BitVec.ofNat 6 mag)),
   (0x27, .acR2S7 (BitVec.ofNat 7 mag)), (0x28, .acR2S8 (BitVec.ofNat 8 mag)), (0x29, .acR2S9 (BitVec.ofNat 9 mag)),
   (0x2A, .acR2S10 (BitVec.ofNat 10 mag))]

/-- The AC rows of run 3, by size: each made from its magnitude bits as a number (R124, R126). -/
def acRowsRun3 (mag : Nat) : List (Nat × Instr) :=
  [(0x31, .acR3S1 (BitVec.ofNat 1 mag)), (0x32, .acR3S2 (BitVec.ofNat 2 mag)), (0x33, .acR3S3 (BitVec.ofNat 3 mag)),
   (0x34, .acR3S4 (BitVec.ofNat 4 mag)), (0x35, .acR3S5 (BitVec.ofNat 5 mag)), (0x36, .acR3S6 (BitVec.ofNat 6 mag)),
   (0x37, .acR3S7 (BitVec.ofNat 7 mag)), (0x38, .acR3S8 (BitVec.ofNat 8 mag)), (0x39, .acR3S9 (BitVec.ofNat 9 mag)),
   (0x3A, .acR3S10 (BitVec.ofNat 10 mag))]

/-- The AC rows of run 4, by size: each made from its magnitude bits as a number (R124, R126). -/
def acRowsRun4 (mag : Nat) : List (Nat × Instr) :=
  [(0x41, .acR4S1 (BitVec.ofNat 1 mag)), (0x42, .acR4S2 (BitVec.ofNat 2 mag)), (0x43, .acR4S3 (BitVec.ofNat 3 mag)),
   (0x44, .acR4S4 (BitVec.ofNat 4 mag)), (0x45, .acR4S5 (BitVec.ofNat 5 mag)), (0x46, .acR4S6 (BitVec.ofNat 6 mag)),
   (0x47, .acR4S7 (BitVec.ofNat 7 mag)), (0x48, .acR4S8 (BitVec.ofNat 8 mag)), (0x49, .acR4S9 (BitVec.ofNat 9 mag)),
   (0x4A, .acR4S10 (BitVec.ofNat 10 mag))]

/-- The AC rows of run 5, by size: each made from its magnitude bits as a number (R124, R126). -/
def acRowsRun5 (mag : Nat) : List (Nat × Instr) :=
  [(0x51, .acR5S1 (BitVec.ofNat 1 mag)), (0x52, .acR5S2 (BitVec.ofNat 2 mag)), (0x53, .acR5S3 (BitVec.ofNat 3 mag)),
   (0x54, .acR5S4 (BitVec.ofNat 4 mag)), (0x55, .acR5S5 (BitVec.ofNat 5 mag)), (0x56, .acR5S6 (BitVec.ofNat 6 mag)),
   (0x57, .acR5S7 (BitVec.ofNat 7 mag)), (0x58, .acR5S8 (BitVec.ofNat 8 mag)), (0x59, .acR5S9 (BitVec.ofNat 9 mag)),
   (0x5A, .acR5S10 (BitVec.ofNat 10 mag))]

/-- The AC rows of run 6, by size: each made from its magnitude bits as a number (R124, R126). -/
def acRowsRun6 (mag : Nat) : List (Nat × Instr) :=
  [(0x61, .acR6S1 (BitVec.ofNat 1 mag)), (0x62, .acR6S2 (BitVec.ofNat 2 mag)), (0x63, .acR6S3 (BitVec.ofNat 3 mag)),
   (0x64, .acR6S4 (BitVec.ofNat 4 mag)), (0x65, .acR6S5 (BitVec.ofNat 5 mag)), (0x66, .acR6S6 (BitVec.ofNat 6 mag)),
   (0x67, .acR6S7 (BitVec.ofNat 7 mag)), (0x68, .acR6S8 (BitVec.ofNat 8 mag)), (0x69, .acR6S9 (BitVec.ofNat 9 mag)),
   (0x6A, .acR6S10 (BitVec.ofNat 10 mag))]

/-- The AC rows of run 7, by size: each made from its magnitude bits as a number (R124, R126). -/
def acRowsRun7 (mag : Nat) : List (Nat × Instr) :=
  [(0x71, .acR7S1 (BitVec.ofNat 1 mag)), (0x72, .acR7S2 (BitVec.ofNat 2 mag)), (0x73, .acR7S3 (BitVec.ofNat 3 mag)),
   (0x74, .acR7S4 (BitVec.ofNat 4 mag)), (0x75, .acR7S5 (BitVec.ofNat 5 mag)), (0x76, .acR7S6 (BitVec.ofNat 6 mag)),
   (0x77, .acR7S7 (BitVec.ofNat 7 mag)), (0x78, .acR7S8 (BitVec.ofNat 8 mag)), (0x79, .acR7S9 (BitVec.ofNat 9 mag)),
   (0x7A, .acR7S10 (BitVec.ofNat 10 mag))]

/-- The AC rows of run 8, by size: each made from its magnitude bits as a number (R124, R126). -/
def acRowsRun8 (mag : Nat) : List (Nat × Instr) :=
  [(0x81, .acR8S1 (BitVec.ofNat 1 mag)), (0x82, .acR8S2 (BitVec.ofNat 2 mag)), (0x83, .acR8S3 (BitVec.ofNat 3 mag)),
   (0x84, .acR8S4 (BitVec.ofNat 4 mag)), (0x85, .acR8S5 (BitVec.ofNat 5 mag)), (0x86, .acR8S6 (BitVec.ofNat 6 mag)),
   (0x87, .acR8S7 (BitVec.ofNat 7 mag)), (0x88, .acR8S8 (BitVec.ofNat 8 mag)), (0x89, .acR8S9 (BitVec.ofNat 9 mag)),
   (0x8A, .acR8S10 (BitVec.ofNat 10 mag))]

/-- The AC rows of run 9, by size: each made from its magnitude bits as a number (R124, R126). -/
def acRowsRun9 (mag : Nat) : List (Nat × Instr) :=
  [(0x91, .acR9S1 (BitVec.ofNat 1 mag)), (0x92, .acR9S2 (BitVec.ofNat 2 mag)), (0x93, .acR9S3 (BitVec.ofNat 3 mag)),
   (0x94, .acR9S4 (BitVec.ofNat 4 mag)), (0x95, .acR9S5 (BitVec.ofNat 5 mag)), (0x96, .acR9S6 (BitVec.ofNat 6 mag)),
   (0x97, .acR9S7 (BitVec.ofNat 7 mag)), (0x98, .acR9S8 (BitVec.ofNat 8 mag)), (0x99, .acR9S9 (BitVec.ofNat 9 mag)),
   (0x9A, .acR9S10 (BitVec.ofNat 10 mag))]

/-- The AC rows of run 10, by size: each made from its magnitude bits as a number (R124, R126). -/
def acRowsRun10 (mag : Nat) : List (Nat × Instr) :=
  [(0xA1, .acR10S1 (BitVec.ofNat 1 mag)), (0xA2, .acR10S2 (BitVec.ofNat 2 mag)), (0xA3, .acR10S3 (BitVec.ofNat 3 mag)),
   (0xA4, .acR10S4 (BitVec.ofNat 4 mag)), (0xA5, .acR10S5 (BitVec.ofNat 5 mag)), (0xA6, .acR10S6 (BitVec.ofNat 6 mag)),
   (0xA7, .acR10S7 (BitVec.ofNat 7 mag)), (0xA8, .acR10S8 (BitVec.ofNat 8 mag)), (0xA9, .acR10S9 (BitVec.ofNat 9 mag)),
   (0xAA, .acR10S10 (BitVec.ofNat 10 mag))]

/-- The AC rows of run 11, by size: each made from its magnitude bits as a number (R124, R126). -/
def acRowsRun11 (mag : Nat) : List (Nat × Instr) :=
  [(0xB1, .acR11S1 (BitVec.ofNat 1 mag)), (0xB2, .acR11S2 (BitVec.ofNat 2 mag)), (0xB3, .acR11S3 (BitVec.ofNat 3 mag)),
   (0xB4, .acR11S4 (BitVec.ofNat 4 mag)), (0xB5, .acR11S5 (BitVec.ofNat 5 mag)), (0xB6, .acR11S6 (BitVec.ofNat 6 mag)),
   (0xB7, .acR11S7 (BitVec.ofNat 7 mag)), (0xB8, .acR11S8 (BitVec.ofNat 8 mag)), (0xB9, .acR11S9 (BitVec.ofNat 9 mag)),
   (0xBA, .acR11S10 (BitVec.ofNat 10 mag))]

/-- The AC rows of run 12, by size: each made from its magnitude bits as a number (R124, R126). -/
def acRowsRun12 (mag : Nat) : List (Nat × Instr) :=
  [(0xC1, .acR12S1 (BitVec.ofNat 1 mag)), (0xC2, .acR12S2 (BitVec.ofNat 2 mag)), (0xC3, .acR12S3 (BitVec.ofNat 3 mag)),
   (0xC4, .acR12S4 (BitVec.ofNat 4 mag)), (0xC5, .acR12S5 (BitVec.ofNat 5 mag)), (0xC6, .acR12S6 (BitVec.ofNat 6 mag)),
   (0xC7, .acR12S7 (BitVec.ofNat 7 mag)), (0xC8, .acR12S8 (BitVec.ofNat 8 mag)), (0xC9, .acR12S9 (BitVec.ofNat 9 mag)),
   (0xCA, .acR12S10 (BitVec.ofNat 10 mag))]

/-- The AC rows of run 13, by size: each made from its magnitude bits as a number (R124, R126). -/
def acRowsRun13 (mag : Nat) : List (Nat × Instr) :=
  [(0xD1, .acR13S1 (BitVec.ofNat 1 mag)), (0xD2, .acR13S2 (BitVec.ofNat 2 mag)), (0xD3, .acR13S3 (BitVec.ofNat 3 mag)),
   (0xD4, .acR13S4 (BitVec.ofNat 4 mag)), (0xD5, .acR13S5 (BitVec.ofNat 5 mag)), (0xD6, .acR13S6 (BitVec.ofNat 6 mag)),
   (0xD7, .acR13S7 (BitVec.ofNat 7 mag)), (0xD8, .acR13S8 (BitVec.ofNat 8 mag)), (0xD9, .acR13S9 (BitVec.ofNat 9 mag)),
   (0xDA, .acR13S10 (BitVec.ofNat 10 mag))]

/-- The AC rows of run 14, by size: each made from its magnitude bits as a number (R124, R126). -/
def acRowsRun14 (mag : Nat) : List (Nat × Instr) :=
  [(0xE1, .acR14S1 (BitVec.ofNat 1 mag)), (0xE2, .acR14S2 (BitVec.ofNat 2 mag)), (0xE3, .acR14S3 (BitVec.ofNat 3 mag)),
   (0xE4, .acR14S4 (BitVec.ofNat 4 mag)), (0xE5, .acR14S5 (BitVec.ofNat 5 mag)), (0xE6, .acR14S6 (BitVec.ofNat 6 mag)),
   (0xE7, .acR14S7 (BitVec.ofNat 7 mag)), (0xE8, .acR14S8 (BitVec.ofNat 8 mag)), (0xE9, .acR14S9 (BitVec.ofNat 9 mag)),
   (0xEA, .acR14S10 (BitVec.ofNat 10 mag))]

/-- The AC rows of run 15, by size: each made from its magnitude bits as a number (R124, R126). -/
def acRowsRun15 (mag : Nat) : List (Nat × Instr) :=
  [(0xF0, .acZrl), (0xF1, .acR15S1 (BitVec.ofNat 1 mag)), (0xF2, .acR15S2 (BitVec.ofNat 2 mag)),
   (0xF3, .acR15S3 (BitVec.ofNat 3 mag)), (0xF4, .acR15S4 (BitVec.ofNat 4 mag)), (0xF5, .acR15S5 (BitVec.ofNat 5 mag)),
   (0xF6, .acR15S6 (BitVec.ofNat 6 mag)), (0xF7, .acR15S7 (BitVec.ofNat 7 mag)), (0xF8, .acR15S8 (BitVec.ofNat 8 mag)),
   (0xF9, .acR15S9 (BitVec.ofNat 9 mag)), (0xFA, .acR15S10 (BitVec.ofNat 10 mag))]

/-- The AC row of a symbol byte with its magnitude bits as a number (R124, R126). -/
def acRow (symbol mag : Nat) : Option Instr :=
  (match symbol / 16 with
    | 0 => acRowsRun0 mag
    | 1 => acRowsRun1 mag
    | 2 => acRowsRun2 mag
    | 3 => acRowsRun3 mag
    | 4 => acRowsRun4 mag
    | 5 => acRowsRun5 mag
    | 6 => acRowsRun6 mag
    | 7 => acRowsRun7 mag
    | 8 => acRowsRun8 mag
    | 9 => acRowsRun9 mag
    | 10 => acRowsRun10 mag
    | 11 => acRowsRun11 mag
    | 12 => acRowsRun12 mag
    | 13 => acRowsRun13 mag
    | 14 => acRowsRun14 mag
    | 15 => acRowsRun15 mag
    | _ => []).lookup symbol

/-- The size of an AC symbol: its low nibble (R125). -/
def acSize (symbol : Nat) : Nat := symbol % 16

/-- One coded item from the front of a bit string, and the bits after it: a codeword of the table, then as many
magnitude bits as its size says (R120, R135). -/
def decodeItem (table : List (Nat × Codeword)) (size : Nat → Nat) (row : Nat → Nat → Option Instr) (bs : List Bool) :
    Except DecodeError (Instr × List Bool) :=
  match matchPrefix table bs with
  | none => .error .noCodeword
  | some (symbol, rest) =>
    if rest.length < size symbol then .error .magTruncated
    else
      match row symbol (bitsNat (rest.take (size symbol))) with
      | none => .error .noCodeword
      | some i => .ok (i, rest.drop (size symbol))

/-- HUFF_DC from the front of a bit string (R122). -/
def decodeDcItem (bs : List Bool) : Except DecodeError (Instr × List Bool) := decodeItem Rom.dcHuff id dcRow bs

/-- HUFF_AC from the front of a bit string (R124). -/
def decodeAcItem (bs : List Bool) : Except DecodeError (Instr × List Bool) := decodeItem Rom.acHuff acSize acRow bs

/-- A coded item that must take the whole bit string. -/
def decodeWhole (item : Except DecodeError (Instr × List Bool)) : Except DecodeError Instr :=
  match item with
  | .error e => .error e
  | .ok (i, []) => .ok i
  | .ok (_, _ :: _) => .error .trailingBits

/-- CALL: invoked by name with operands (R110); the other sub-formats by their tables. -/
def decodeSub : SubCode → Except DecodeError Instr
  | .seqDone => .ok .seqDone
  | .bwWrite bits nbits => if (Instr.bwWrite bits nbits).wellFormed then .ok (.bwWrite bits nbits) else .error .badNbits
  | .outAppend byte => .ok (.outAppend byte)
  | .marker word => decodeMarker word
  | .stuff word => decodeStuff word
  | .huffDc bs => decodeWhole (decodeDcItem bs)
  | .huffAc bs => decodeWhole (decodeAcItem bs)

/-- The operation a code stands for, or why it is none. -/
def decode : Code → Except DecodeError Instr
  | .host offset data => decodeHost offset data
  | .uop phase => decodeUop phase
  | .sub c => decodeSub c

/-! ## Encoding -/

/-- The bits of a table's codeword for a symbol, in emission order (R121). -/
def codewordBits (table : List (Nat × Codeword)) (symbol : Nat) : List Bool :=
  match table.lookup symbol with
  | some cw => natBits cw.len cw.code
  | none => []

/-- The coded DC item: codeword, then magnitude bits (R120). -/
def dcItem (category mag : Nat) : Code := .sub (.huffDc (codewordBits Rom.dcHuff category ++ natBits category mag))

/-- The coded AC item: codeword, then magnitude bits (R120). -/
def acItem (symbol mag : Nat) : Code := .sub (.huffAc (codewordBits Rom.acHuff symbol ++ natBits (acSize symbol) mag))

/-- The code of an operation, format by format (R110 to R128). -/
def encode : Instr → Code
  | .encode ignored => .host 0x00#8 (ignored ++ 1#1)
  | .seqCheck => .uop 1#5
  | .qtbBuild => .uop 2#5
  | .hdrSoi => .uop 3#5
  | .hdrApp0 => .uop 4#5
  | .hdrDqt => .uop 5#5
  | .hdrSof0 => .uop 6#5
  | .hdrDhtDc => .uop 7#5
  | .hdrDhtAc => .uop 8#5
  | .hdrSos => .uop 9#5
  | .blkFetch => .uop 10#5
  | .fdct => .uop 11#5
  | .quant => .uop 12#5
  | .zigzag => .uop 13#5
  | .entDc => .uop 14#5
  | .entAc => .uop 15#5
  | .entEob => .uop 16#5
  | .blkNext => .uop 17#5
  | .bwFinalize => .uop 18#5
  | .hdrEoi => .uop 19#5
  | .seqDone => .sub .seqDone
  | .bwWrite bits nbits => .sub (.bwWrite bits nbits)
  | .outAppend byte => .sub (.outAppend byte)
  | .markerSoi => .sub (.marker 0xFFD8#16)
  | .markerApp0 => .sub (.marker 0xFFE0#16)
  | .markerDqt => .sub (.marker 0xFFDB#16)
  | .markerSof0 => .sub (.marker 0xFFC0#16)
  | .markerDht => .sub (.marker 0xFFC4#16)
  | .markerSos => .sub (.marker 0xFFDA#16)
  | .markerEoi => .sub (.marker 0xFFD9#16)
  | .stuff => .sub (.stuff 0xFF00#16)
  | .dcCat0 => dcItem 0 0
  | .dcCat1 mag => dcItem 1 mag.toNat
  | .dcCat2 mag => dcItem 2 mag.toNat
  | .dcCat3 mag => dcItem 3 mag.toNat
  | .dcCat4 mag => dcItem 4 mag.toNat
  | .dcCat5 mag => dcItem 5 mag.toNat
  | .dcCat6 mag => dcItem 6 mag.toNat
  | .dcCat7 mag => dcItem 7 mag.toNat
  | .dcCat8 mag => dcItem 8 mag.toNat
  | .dcCat9 mag => dcItem 9 mag.toNat
  | .dcCat10 mag => dcItem 10 mag.toNat
  | .dcCat11 mag => dcItem 11 mag.toNat
  | .acEob => acItem 0x00 0
  | .acR0S1 mag => acItem 0x01 mag.toNat
  | .acR0S2 mag => acItem 0x02 mag.toNat
  | .acR0S3 mag => acItem 0x03 mag.toNat
  | .acR0S4 mag => acItem 0x04 mag.toNat
  | .acR0S5 mag => acItem 0x05 mag.toNat
  | .acR0S6 mag => acItem 0x06 mag.toNat
  | .acR0S7 mag => acItem 0x07 mag.toNat
  | .acR0S8 mag => acItem 0x08 mag.toNat
  | .acR0S9 mag => acItem 0x09 mag.toNat
  | .acR0S10 mag => acItem 0x0A mag.toNat
  | .acR1S1 mag => acItem 0x11 mag.toNat
  | .acR1S2 mag => acItem 0x12 mag.toNat
  | .acR1S3 mag => acItem 0x13 mag.toNat
  | .acR1S4 mag => acItem 0x14 mag.toNat
  | .acR1S5 mag => acItem 0x15 mag.toNat
  | .acR1S6 mag => acItem 0x16 mag.toNat
  | .acR1S7 mag => acItem 0x17 mag.toNat
  | .acR1S8 mag => acItem 0x18 mag.toNat
  | .acR1S9 mag => acItem 0x19 mag.toNat
  | .acR1S10 mag => acItem 0x1A mag.toNat
  | .acR2S1 mag => acItem 0x21 mag.toNat
  | .acR2S2 mag => acItem 0x22 mag.toNat
  | .acR2S3 mag => acItem 0x23 mag.toNat
  | .acR2S4 mag => acItem 0x24 mag.toNat
  | .acR2S5 mag => acItem 0x25 mag.toNat
  | .acR2S6 mag => acItem 0x26 mag.toNat
  | .acR2S7 mag => acItem 0x27 mag.toNat
  | .acR2S8 mag => acItem 0x28 mag.toNat
  | .acR2S9 mag => acItem 0x29 mag.toNat
  | .acR2S10 mag => acItem 0x2A mag.toNat
  | .acR3S1 mag => acItem 0x31 mag.toNat
  | .acR3S2 mag => acItem 0x32 mag.toNat
  | .acR3S3 mag => acItem 0x33 mag.toNat
  | .acR3S4 mag => acItem 0x34 mag.toNat
  | .acR3S5 mag => acItem 0x35 mag.toNat
  | .acR3S6 mag => acItem 0x36 mag.toNat
  | .acR3S7 mag => acItem 0x37 mag.toNat
  | .acR3S8 mag => acItem 0x38 mag.toNat
  | .acR3S9 mag => acItem 0x39 mag.toNat
  | .acR3S10 mag => acItem 0x3A mag.toNat
  | .acR4S1 mag => acItem 0x41 mag.toNat
  | .acR4S2 mag => acItem 0x42 mag.toNat
  | .acR4S3 mag => acItem 0x43 mag.toNat
  | .acR4S4 mag => acItem 0x44 mag.toNat
  | .acR4S5 mag => acItem 0x45 mag.toNat
  | .acR4S6 mag => acItem 0x46 mag.toNat
  | .acR4S7 mag => acItem 0x47 mag.toNat
  | .acR4S8 mag => acItem 0x48 mag.toNat
  | .acR4S9 mag => acItem 0x49 mag.toNat
  | .acR4S10 mag => acItem 0x4A mag.toNat
  | .acR5S1 mag => acItem 0x51 mag.toNat
  | .acR5S2 mag => acItem 0x52 mag.toNat
  | .acR5S3 mag => acItem 0x53 mag.toNat
  | .acR5S4 mag => acItem 0x54 mag.toNat
  | .acR5S5 mag => acItem 0x55 mag.toNat
  | .acR5S6 mag => acItem 0x56 mag.toNat
  | .acR5S7 mag => acItem 0x57 mag.toNat
  | .acR5S8 mag => acItem 0x58 mag.toNat
  | .acR5S9 mag => acItem 0x59 mag.toNat
  | .acR5S10 mag => acItem 0x5A mag.toNat
  | .acR6S1 mag => acItem 0x61 mag.toNat
  | .acR6S2 mag => acItem 0x62 mag.toNat
  | .acR6S3 mag => acItem 0x63 mag.toNat
  | .acR6S4 mag => acItem 0x64 mag.toNat
  | .acR6S5 mag => acItem 0x65 mag.toNat
  | .acR6S6 mag => acItem 0x66 mag.toNat
  | .acR6S7 mag => acItem 0x67 mag.toNat
  | .acR6S8 mag => acItem 0x68 mag.toNat
  | .acR6S9 mag => acItem 0x69 mag.toNat
  | .acR6S10 mag => acItem 0x6A mag.toNat
  | .acR7S1 mag => acItem 0x71 mag.toNat
  | .acR7S2 mag => acItem 0x72 mag.toNat
  | .acR7S3 mag => acItem 0x73 mag.toNat
  | .acR7S4 mag => acItem 0x74 mag.toNat
  | .acR7S5 mag => acItem 0x75 mag.toNat
  | .acR7S6 mag => acItem 0x76 mag.toNat
  | .acR7S7 mag => acItem 0x77 mag.toNat
  | .acR7S8 mag => acItem 0x78 mag.toNat
  | .acR7S9 mag => acItem 0x79 mag.toNat
  | .acR7S10 mag => acItem 0x7A mag.toNat
  | .acR8S1 mag => acItem 0x81 mag.toNat
  | .acR8S2 mag => acItem 0x82 mag.toNat
  | .acR8S3 mag => acItem 0x83 mag.toNat
  | .acR8S4 mag => acItem 0x84 mag.toNat
  | .acR8S5 mag => acItem 0x85 mag.toNat
  | .acR8S6 mag => acItem 0x86 mag.toNat
  | .acR8S7 mag => acItem 0x87 mag.toNat
  | .acR8S8 mag => acItem 0x88 mag.toNat
  | .acR8S9 mag => acItem 0x89 mag.toNat
  | .acR8S10 mag => acItem 0x8A mag.toNat
  | .acR9S1 mag => acItem 0x91 mag.toNat
  | .acR9S2 mag => acItem 0x92 mag.toNat
  | .acR9S3 mag => acItem 0x93 mag.toNat
  | .acR9S4 mag => acItem 0x94 mag.toNat
  | .acR9S5 mag => acItem 0x95 mag.toNat
  | .acR9S6 mag => acItem 0x96 mag.toNat
  | .acR9S7 mag => acItem 0x97 mag.toNat
  | .acR9S8 mag => acItem 0x98 mag.toNat
  | .acR9S9 mag => acItem 0x99 mag.toNat
  | .acR9S10 mag => acItem 0x9A mag.toNat
  | .acR10S1 mag => acItem 0xA1 mag.toNat
  | .acR10S2 mag => acItem 0xA2 mag.toNat
  | .acR10S3 mag => acItem 0xA3 mag.toNat
  | .acR10S4 mag => acItem 0xA4 mag.toNat
  | .acR10S5 mag => acItem 0xA5 mag.toNat
  | .acR10S6 mag => acItem 0xA6 mag.toNat
  | .acR10S7 mag => acItem 0xA7 mag.toNat
  | .acR10S8 mag => acItem 0xA8 mag.toNat
  | .acR10S9 mag => acItem 0xA9 mag.toNat
  | .acR10S10 mag => acItem 0xAA mag.toNat
  | .acR11S1 mag => acItem 0xB1 mag.toNat
  | .acR11S2 mag => acItem 0xB2 mag.toNat
  | .acR11S3 mag => acItem 0xB3 mag.toNat
  | .acR11S4 mag => acItem 0xB4 mag.toNat
  | .acR11S5 mag => acItem 0xB5 mag.toNat
  | .acR11S6 mag => acItem 0xB6 mag.toNat
  | .acR11S7 mag => acItem 0xB7 mag.toNat
  | .acR11S8 mag => acItem 0xB8 mag.toNat
  | .acR11S9 mag => acItem 0xB9 mag.toNat
  | .acR11S10 mag => acItem 0xBA mag.toNat
  | .acR12S1 mag => acItem 0xC1 mag.toNat
  | .acR12S2 mag => acItem 0xC2 mag.toNat
  | .acR12S3 mag => acItem 0xC3 mag.toNat
  | .acR12S4 mag => acItem 0xC4 mag.toNat
  | .acR12S5 mag => acItem 0xC5 mag.toNat
  | .acR12S6 mag => acItem 0xC6 mag.toNat
  | .acR12S7 mag => acItem 0xC7 mag.toNat
  | .acR12S8 mag => acItem 0xC8 mag.toNat
  | .acR12S9 mag => acItem 0xC9 mag.toNat
  | .acR12S10 mag => acItem 0xCA mag.toNat
  | .acR13S1 mag => acItem 0xD1 mag.toNat
  | .acR13S2 mag => acItem 0xD2 mag.toNat
  | .acR13S3 mag => acItem 0xD3 mag.toNat
  | .acR13S4 mag => acItem 0xD4 mag.toNat
  | .acR13S5 mag => acItem 0xD5 mag.toNat
  | .acR13S6 mag => acItem 0xD6 mag.toNat
  | .acR13S7 mag => acItem 0xD7 mag.toNat
  | .acR13S8 mag => acItem 0xD8 mag.toNat
  | .acR13S9 mag => acItem 0xD9 mag.toNat
  | .acR13S10 mag => acItem 0xDA mag.toNat
  | .acR14S1 mag => acItem 0xE1 mag.toNat
  | .acR14S2 mag => acItem 0xE2 mag.toNat
  | .acR14S3 mag => acItem 0xE3 mag.toNat
  | .acR14S4 mag => acItem 0xE4 mag.toNat
  | .acR14S5 mag => acItem 0xE5 mag.toNat
  | .acR14S6 mag => acItem 0xE6 mag.toNat
  | .acR14S7 mag => acItem 0xE7 mag.toNat
  | .acR14S8 mag => acItem 0xE8 mag.toNat
  | .acR14S9 mag => acItem 0xE9 mag.toNat
  | .acR14S10 mag => acItem 0xEA mag.toNat
  | .acZrl => acItem 0xF0 0
  | .acR15S1 mag => acItem 0xF1 mag.toNat
  | .acR15S2 mag => acItem 0xF2 mag.toNat
  | .acR15S3 mag => acItem 0xF3 mag.toNat
  | .acR15S4 mag => acItem 0xF4 mag.toNat
  | .acR15S5 mag => acItem 0xF5 mag.toNat
  | .acR15S6 mag => acItem 0xF6 mag.toNat
  | .acR15S7 mag => acItem 0xF7 mag.toNat
  | .acR15S8 mag => acItem 0xF8 mag.toNat
  | .acR15S9 mag => acItem 0xF9 mag.toNat
  | .acR15S10 mag => acItem 0xFA mag.toNat

/-! ## The opcode table's flat words

spec/opcode_table.json numbers a row's bits from 0 at the least significant bit and does not say which format a word is
in; the formats' codes overlap (the word 1 is SEQ.CHECK as a UOP and AC.R0S2 as a HUFF_AC codeword). A word is read in
this order (log 4): more than 32 bits HOST, an operation's PHASE code UOP, a marker MARKER, FF00 STUFF, a DC codeword, an
AC codeword. A codeword's missing magnitude bits are zeros. The CALL rows have no word. -/

/-- The symbol whose codeword has this value and takes this many whole bytes. -/
def symbolOfValue : List (Nat × Codeword) → Nat → Nat → Option Nat
  | [], _, _ => none
  | (symbol, cw) :: table, nbits, w =>
    if cw.code = w ∧ 8 * ((cw.len + 7) / 8) = nbits then some symbol else symbolOfValue table nbits w

/-- The code a flat word of the opcode table stands for. -/
def tableCode (nbits w : Nat) : Code :=
  if 32 < nbits then .host (BitVec.ofNat 8 (w / 2 ^ 32)) (BitVec.ofNat 32 w)
  else if nbits ≤ 8 ∧ 1 ≤ w ∧ w ≤ 19 then .uop (BitVec.ofNat 5 w)
  else if w = 0xFF00 then .sub (.stuff (BitVec.ofNat 16 w))
  else
    match decodeMarker (BitVec.ofNat 16 w), symbolOfValue Rom.dcHuff nbits w, symbolOfValue Rom.acHuff nbits w with
    | .error _, some category, _ => dcItem category 0
    | .error _, none, some symbol => acItem symbol 0
    | _, _, _ => .sub (.marker (BitVec.ofNat 16 w))

/-- The operation the decoder reads from a flat word of the opcode table. -/
def decodeTableWord (nbits w : Nat) : Option Instr := (decode (tableCode nbits w)).toOption

end Sys2Proof
end

