-- ==== Sys2Proof/Machine/State.lean ====
section
/-! DEFINITION. The block's state (10_state.md, 20_memory.md), the host accesses that wait for it, the reasons a step can
stop, and the state after reset (R59, R380). Plain data throughout. -/

namespace Sys2Proof.Machine

/-- PHASE, the block's program counter (R41, R112). -/
inductive Phase where
  | idle | check | qtb
  | hdrSoi | hdrApp0 | hdrDqt | hdrSof0 | hdrDhtDc | hdrDhtAc | hdrSos
  | blkFetch | fdct | quant | zigzag | entDc | entAc | entEob | blkNext
  | bwFinal | hdrEoi | done | error
deriving DecidableEq, Repr

/-- STATUS: the four patterns of R34. -/
inductive Status where
  | idle | busy | done | error
deriving DecidableEq, Repr

/-- ERRCODE (R37, R340). -/
inductive ErrCode where
  | none | invalidDimension | invalidQuality | degenerateQuantEntry | outputOverflow
deriving DecidableEq, Repr

/-- A byte memory: (address, byte) cells in strictly rising address order (log 8, log 9). -/
abbrev Memory := List Host.Cell

/-- The width of a host access to REG (R81). -/
inductive AccessWidth where
  | byte | half | word
deriving DecidableEq, Repr

/-- One access of the host (R81, R82, R85, R133) or of the reset input (R380). -/
inductive HostAccess where
  /-- RD: a REG read -/
  | regRead (offset : BitVec 8) (width : AccessWidth)
  /-- WR: a REG write -/
  | regWrite (offset : BitVec 8) (width : AccessWidth) (data : BitVec 32)
  /-- a read of one IMG byte -/
  | imgRead (addr : BitVec 32)
  /-- a write of one IMG byte -/
  | imgWrite (addr : BitVec 32) (byte : Byte)
  /-- a read of one OUT byte -/
  | outRead (addr : Nat)
  /-- RDOUT: read OUT[0..OUTLEN-1] -/
  | rdOut
  /-- the end of the ENCODE pseudo-instruction: RDOUT if DONE, else RD ERRCODE; RD ERRINFO -/
  | collect
  /-- the hardware reset input -/
  | reset
deriving DecidableEq, Repr

/-- What happens next outside the sequencer's own order (log 1). -/
inductive Input where
  /-- the host makes one access -/
  | host (access : HostAccess)
  /-- WAIT: the host polls STATUS until BUSY = 0 (log 25) -/
  | wait
  /-- the sequencer has its turn before the inputs that follow -/
  | seq
  /-- one operation is carried out by name, on its own: the model's own port, no hardware has it (log 2) -/
  | issue (op : Instr)
deriving DecidableEq, Repr

/-- The model-level faults. Both are unreachable by the spec's own account and both are safe: they stop. -/
inductive Fault where
  /-- a symbol that has no codeword (R129, U5); raised by ENT.DC and ENT.AC -/
  | noCodeword (symbol : Nat)
  /-- the block cursor stands outside the image (R184, U6); raised by BLK.FETCH -/
  | blockOutsideImage
deriving DecidableEq, Repr

/-- The refusals. All are safe: they stop. -/
inductive Refusal where
  /-- an instruction without a meaning; raised by exec's arms only -/
  | notModelled (mnemonic : String)
  /-- a REG access at an offset that is not a multiple of 4 (R81, U8); raised by a host access -/
  | regMisaligned
  /-- a REG access narrower than a word (R81, U8); raised by a host access -/
  | regNarrow
  /-- a host read of OUT while STATUS is not DONE (R85) -/
  | outNotReadable
  /-- a host read of OUT at or beyond OUTLEN (R85) -/
  | outBeyondLength
  /-- a host access to an IMG address that no image has (R80, R82) -/
  | imgNoSuchAddress
deriving DecidableEq, Repr

/-- What `raise` records (R340, R348). -/
structure Raise where
  code : ErrCode
  info : BitVec 32
deriving DecidableEq, Repr

/-- Why an operation does not complete: an exception of the block (R340) or a model-level fault. -/
inductive Stop where
  | raise (r : Raise)
  | fault (f : Fault)
deriving DecidableEq, Repr

/-- All the spec gives the machine; INVENTORY.md lists every field with its rule and its reset value. -/
structure State where
  /-- WIDTH (R35) -/
  width : BitVec 16
  /-- HEIGHT (R35) -/
  height : BitVec 16
  /-- QUALITY, two's complement (R36) -/
  quality : BitVec 16
  /-- STATUS (R34) -/
  status : Status
  /-- ERRCODE (R37) -/
  errCode : ErrCode
  /-- ERRINFO (R38) -/
  errInfo : BitVec 32
  /-- PHASE (R41) -/
  phase : Phase
  /-- BX (R42) -/
  blkX : BitVec 16
  /-- BY (R42) -/
  blkY : BitVec 16
  /-- QT[0..63] (R44) -/
  qt : Vector Byte 64
  /-- SAMP[0..63] (R45) -/
  samp : Vector Byte 64
  /-- COEF[0..63] (R46) -/
  coef : Vector ExactReal 64
  /-- QUO[0..63] (R47) -/
  quo : Vector ExactReal 64
  /-- ZZ[0..63] (R48) -/
  zz : Vector Int 64
  /-- LEN, 0..64 (R48) -/
  len : Fin 65
  /-- PRED (R49) -/
  pred : Int
  /-- NZ (R50) -/
  nz : Nat
  /-- ACC (R51) -/
  acc : Nat
  /-- ACCN (R51) -/
  accn : Nat
  /-- OUT (R53) -/
  out : Memory
  /-- OUTLEN (R53) -/
  outlen : Nat
  /-- OUT_CAP (R10): never written by any step (log 5) -/
  outCap : Config.Capacity
  /-- IMG (R82) -/
  img : Memory
  /-- the model's own: bytes that host writes replaced in IMG while BUSY, newest first (log 10) -/
  torn : List Host.Cell
  /-- the model's own: how many host writes to IMG were made while BUSY (log 10) -/
  draws : Nat
  /-- the model's own: what the host does, and when (log 1) -/
  inputs : List Input
  /-- the model's own: the word or byte the last host read returned (log 12) -/
  rdata : BitVec 32
  /-- the model's own: the bytes the last RDOUT returned (log 12) -/
  rdout : List Byte
deriving DecidableEq, Repr

/-- The state after hardware reset (R59, R380). The working buffers, LEN and NZ, unspecified there, are 0 (log 7). -/
def State.reset : State where
  width := 0
  height := 0
  quality := 0
  status := .idle
  errCode := .none
  errInfo := 0
  phase := .idle
  blkX := 0
  blkY := 0
  qt := Vector.replicate 64 0
  samp := Vector.replicate 64 0
  coef := Vector.replicate 64 ⟨⟨0, 0, 0, 0, 0, 0, 0, 0⟩, 1⟩
  quo := Vector.replicate 64 ⟨⟨0, 0, 0, 0, 0, 0, 0, 0⟩, 1⟩
  zz := Vector.replicate 64 0
  len := 0
  pred := 0
  nz := 0
  acc := 0
  accn := 0
  out := []
  outlen := 0
  outCap := none
  img := []
  torn := []
  draws := 0
  inputs := []
  rdata := 0
  rdout := []

end Sys2Proof.Machine
end

