-- ==== Sys2Proof/Machine/Flags.lean ====
section
/-! DEFINITION. The block's only flags, STATUS.BUSY, DONE and ERROR (R34, R56), and the error codes (R37, R340). -/

namespace Sys2Proof.Machine

/-- The STATUS pattern: [0] BUSY, [1] DONE, [2] ERROR (R34). -/
def statusBits : Status → BitVec 3
  | .idle => 0b000
  | .busy => 0b001
  | .done => 0b010
  | .error => 0b100

/-- The STATUS that goes with a PHASE (R34). -/
def statusOfPhase : Phase → Status
  | .idle => .idle
  | .done => .done
  | .error => .error
  | _ => .busy

/-- STATUS.BUSY = 1. -/
def State.busy (s : State) : Bool := decide (s.status = .busy)

/-- The number of an error (R37, R340). -/
def errBits : ErrCode → BitVec 4
  | .none => 0
  | .invalidDimension => 1
  | .invalidQuality => 2
  | .degenerateQuantEntry => 3
  | .outputOverflow => 4

end Sys2Proof.Machine
end

