-- ==== Sys2Proof/Machine/Exact.lean ====
section
/-! DEFINITION. Exact arithmetic on the reals of COEF and QUO (R46, R196, R198, R321): combinations of cos(kπ/16),
their sign and their truncation, all decided exactly; and the constants DCTK (R193). -/

namespace Sys2Proof

/-! ## Combinations of cosines -/

/-- The zero combination. -/
def Cos8.zero : Cos8 := ⟨0, 0, 0, 0, 0, 0, 0, 0⟩

/-- `v·cos(kπ/16)` for k = 0..7; the zero combination for k = 8, since cos(π/2) = 0. -/
def Cos8.unit (k : Nat) (v : Int) : Cos8 :=
  let pick (j : Nat) : Int := if k = j then v else 0
  ⟨pick 0, pick 1, pick 2, pick 3, pick 4, pick 5, pick 6, pick 7⟩

/-- Sum. -/
def Cos8.add (a b : Cos8) : Cos8 :=
  ⟨a.c0 + b.c0, a.c1 + b.c1, a.c2 + b.c2, a.c3 + b.c3, a.c4 + b.c4, a.c5 + b.c5, a.c6 + b.c6, a.c7 + b.c7⟩

/-- Integer multiple. -/
def Cos8.smul (n : Int) (a : Cos8) : Cos8 :=
  ⟨n * a.c0, n * a.c1, n * a.c2, n * a.c3, n * a.c4, n * a.c5, n * a.c6, n * a.c7⟩

/-- Negation. -/
def Cos8.neg (a : Cos8) : Cos8 := ⟨-a.c0, -a.c1, -a.c2, -a.c3, -a.c4, -a.c5, -a.c6, -a.c7⟩

/-- The eight coefficients in order. -/
def Cos8.toList (a : Cos8) : List Int := [a.c0, a.c1, a.c2, a.c3, a.c4, a.c5, a.c6, a.c7]

/-- Sum of a list of combinations. -/
def Cos8.sum (l : List Cos8) : Cos8 := l.foldr Cos8.add Cos8.zero

/-- `cos(mπ/16)` for any natural m: by period 32, evenness about 16, and cos((16-r)π/16) = -cos(rπ/16). -/
def cosTerm (m : Nat) : Cos8 :=
  let r := m % 32
  let r := if 16 < r then 32 - r else r
  if r < 8 then Cos8.unit r 1 else Cos8.unit (16 - r) (-1)

/-- The distance of two naturals; cosine is even, so it stands for either difference. -/
def natDist (a b : Nat) : Nat := (a - b) + (b - a)

/-- Twice the product of `cos(aπ/16)` and `cos(bπ/16)`: the sum of two cosines (R198). -/
def twiceCosCos (a b : Nat) : Cos8 := (cosTerm (a + b)).add (cosTerm (natDist a b))

/-- Twice the product of two combinations. -/
def Cos8.mulTwice (a b : Cos8) : Cos8 :=
  Cos8.sum (a.toList.zipIdx.map fun p =>
    Cos8.sum (b.toList.zipIdx.map fun q => Cos8.smul (p.1 * q.1) (twiceCosCos p.2 q.2)))

/-! ## Exact reals -/

/-- An integer as an exact real. -/
def ExactReal.ofInt (n : Int) : ExactReal := ⟨Cos8.unit 0 n, 1⟩

/-- Sum. -/
def ExactReal.add (a b : ExactReal) : ExactReal :=
  ⟨(Cos8.smul b.den a.num).add (Cos8.smul a.den b.num), a.den * b.den⟩

/-- Negation. -/
def ExactReal.neg (a : ExactReal) : ExactReal := ⟨a.num.neg, a.den⟩

/-- Difference. -/
def ExactReal.sub (a b : ExactReal) : ExactReal := a.add b.neg

/-- Product. -/
def ExactReal.mul (a b : ExactReal) : ExactReal := ⟨a.num.mulTwice b.num, 2 * a.den * b.den⟩

/-- Exact division by a natural number (R211). -/
def ExactReal.divNat (a : ExactReal) (n : Nat) : ExactReal := ⟨a.num, a.den * n⟩

/-- DCTK[k] = (1/2)·C(k)·cos(kπ/16) (R193): C(0) = 1/√2 = cos(4π/16). -/
def dctk (k : Nat) : ExactReal := ⟨cosTerm (if k = 0 then 4 else k), 2⟩

/-! ## Exact sign

cos(π/16) lies in a tower of three square roots: z = √2, y = √(2 + z) = 2cos(π/8), x = √(2 + y) = 2cos(π/16). The sign of
`a + b·r` with r = √t > 0 follows from the signs of a, b and a² - b²·t, one level down. -/

/-- The sign, -1, 0 or 1, of `a + b·r` for a positive root r, from the signs of a and b and that of `a² - b²·r²`. -/
def signOfRoot (sa sb sd : Int) : Int := if sb = 0 ∨ sa = sb then sa else if sa = 0 then sb else sa * sd

/-- `a + b·√2`. -/
structure Root2 where
  a : Int
  b : Int
deriving DecidableEq, Repr

/-- Difference. -/
def Root2.sub (p q : Root2) : Root2 := ⟨p.a - q.a, p.b - q.b⟩

/-- Sum. -/
def Root2.add (p q : Root2) : Root2 := ⟨p.a + q.a, p.b + q.b⟩

/-- Product. -/
def Root2.mul (p q : Root2) : Root2 := ⟨p.a * q.a + 2 * (p.b * q.b), p.a * q.b + p.b * q.a⟩

/-- Exact sign. -/
def Root2.sign (p : Root2) : Int := signOfRoot p.a.sign p.b.sign (p.a * p.a - 2 * (p.b * p.b)).sign

/-- `a + b·y` with y = √(2 + √2). -/
structure Root4 where
  a : Root2
  b : Root2
deriving DecidableEq, Repr

/-- y² = 2 + √2. -/
def Root4.ySquared : Root2 := ⟨2, 1⟩

/-- Difference. -/
def Root4.sub (p q : Root4) : Root4 := ⟨p.a.sub q.a, p.b.sub q.b⟩

/-- Product. -/
def Root4.mul (p q : Root4) : Root4 :=
  ⟨(p.a.mul q.a).add (Root4.ySquared.mul (p.b.mul q.b)), (p.a.mul q.b).add (p.b.mul q.a)⟩

/-- Exact sign. -/
def Root4.sign (p : Root4) : Int :=
  signOfRoot p.a.sign p.b.sign ((p.a.mul p.a).sub (Root4.ySquared.mul (p.b.mul p.b))).sign

/-- `a + b·x` with x = √(2 + y). -/
structure Root8 where
  a : Root4
  b : Root4
deriving DecidableEq, Repr

/-- x² = 2 + y. -/
def Root8.xSquared : Root4 := ⟨⟨2, 0⟩, ⟨1, 0⟩⟩

/-- Exact sign. -/
def Root8.sign (p : Root8) : Int :=
  signOfRoot p.a.sign p.b.sign ((p.a.mul p.a).sub (Root8.xSquared.mul (p.b.mul p.b))).sign

/-- Twice a combination of cosines, in the tower: 2cos(2π/16) = y, 2cos(3π/16) = xy - x, 2cos(4π/16) = z,
2cos(5π/16) = xz - xy + x, 2cos(6π/16) = yz - y, 2cos(7π/16) = xyz - xz - x. -/
def Cos8.tower (a : Cos8) : Root8 :=
  ⟨⟨⟨2 * a.c0, a.c4⟩, ⟨a.c2 - a.c6, a.c6⟩⟩,
   ⟨⟨a.c1 - a.c3 + a.c5 - a.c7, a.c5 - a.c7⟩, ⟨a.c3 - a.c5, a.c7⟩⟩⟩

/-- The exact sign, -1, 0 or 1, of a combination of cosines (R198). -/
def Cos8.sign (a : Cos8) : Int := a.tower.sign

/-! ## Truncation -/

/-- The least c with n < 2^c (R14). -/
def bitlen (n : Nat) : Nat := if n = 0 then 0 else Nat.log2 n + 1

/-- `m·den ≤ a`, decided exactly. -/
def Cos8.atLeast (a : Cos8) (den m : Nat) : Bool := decide (0 ≤ (a.add (Cos8.unit 0 (-(m * den : Int)))).sign)

/-- The greatest m in `base .. base + 2^k - 1` with `m·den ≤ a`, for `base` such an m: one bit at a time. -/
def Cos8.floorBits (a : Cos8) (den : Nat) : Nat → Nat → Nat
  | 0, base => base
  | k + 1, base => Cos8.floorBits a den k (if a.atLeast den (base + 2 ^ k) then base + 2 ^ k else base)

/-- The sum of the magnitudes of the coefficients: an upper bound of the value, since every cosine is at most 1. -/
def Cos8.bound (a : Cos8) : Nat := (a.toList.map Int.natAbs).foldr (· + ·) 0

/-- The integer part of `a / den` for a ≥ 0 and den > 0. -/
def Cos8.floorDiv (a : Cos8) (den : Nat) : Nat := a.floorBits den (bitlen (a.bound / den)) 0

/-- `trunc` toward zero (R14, R215). -/
def ExactReal.trunc (x : ExactReal) : Int :=
  if x.den = 0 then 0
  else if x.num.sign < 0 then -(x.num.neg.floorDiv x.den : Int)
  else (x.num.floorDiv x.den : Int)

end Sys2Proof
end

