-- ==== Sys2Proof/Machine/Memory.lean ====
section
/-! DEFINITION. Byte memories: the spaces IMG and OUT (R80). A memory lists the bytes written, in strictly rising address
order; an address not listed was never written and holds a free value (log 8, log 9). -/

namespace Sys2Proof.Machine

/-- The byte written last at an address, if any was. -/
def Memory.lookup : Memory → Nat → Option Byte
  | [], _ => none
  | (a, b) :: cells, addr => if addr = a then some b else if addr < a then none else Memory.lookup cells addr

/-- Read one byte; `unwritten` says what an address not written holds. -/
def Memory.read (m : Memory) (unwritten : Nat → Byte) (addr : Nat) : Byte := (m.lookup addr).getD (unwritten addr)

/-- Write one byte, keeping the cells in strictly rising address order. -/
def Memory.write : Memory → Nat → Byte → Memory
  | [], addr, byte => [(addr, byte)]
  | (a, b) :: cells, addr, byte =>
    if addr < a then (addr, byte) :: (a, b) :: cells
    else if addr = a then (addr, byte) :: cells
    else (a, b) :: Memory.write cells addr byte

/-- Write bytes at rising addresses from `addr`. -/
def Memory.writeAll (m : Memory) (addr : Nat) : List Byte → Memory
  | [] => m
  | byte :: bytes => Memory.writeAll (m.write addr byte) (addr + 1) bytes

/-- The canonical form: addresses strictly rising. An unlisted address has no known value, so no listed byte can equal
it (log 9). -/
def Memory.wf : Memory → Bool
  | [] => true
  | [_] => true
  | (a, _) :: (a', b') :: cells => decide (a < a') && Memory.wf ((a', b') :: cells)

end Sys2Proof.Machine
end

