-- ==== Sys2Proof/Machine/Operands.lean ====
section
/-! DEFINITION. Operand forms: the working buffers' elements, PHASE codes, samples of IMG, 16-bit fields, categories,
magnitude bits and symbol bytes (R14, R16, R82, R112, R125, R126). -/

namespace Sys2Proof.Machine

/-- A 64-element working buffer from its elements (R43). -/
def tabulate {α : Type} (f : Fin 64 → α) : Vector α 64 := ⟨⟨(List.finRange 64).map f⟩, by simp⟩

/-- The code of a PHASE (R112). -/
def phaseCode : Phase → BitVec 5
  | .idle => 0 | .check => 1 | .qtb => 2
  | .hdrSoi => 3 | .hdrApp0 => 4 | .hdrDqt => 5 | .hdrSof0 => 6 | .hdrDhtDc => 7 | .hdrDhtAc => 8 | .hdrSos => 9
  | .blkFetch => 10 | .fdct => 11 | .quant => 12 | .zigzag => 13 | .entDc => 14 | .entAc => 15 | .entEob => 16
  | .blkNext => 17 | .bwFinal => 18 | .hdrEoi => 19 | .done => 20 | .error => 21

/-- The PHASEs in the order of their codes (R112). -/
def phases : List Phase :=
  [.idle, .check, .qtb, .hdrSoi, .hdrApp0, .hdrDqt, .hdrSof0, .hdrDhtDc, .hdrDhtAc, .hdrSos, .blkFetch, .fdct, .quant,
   .zigzag, .entDc, .entAc, .entEob, .blkNext, .bwFinal, .hdrEoi, .done, .error]

/-- The PHASE of a code; codes 22 to 31 are none (R130). -/
def phaseOfCode (c : BitVec 5) : Option Phase := phases[c.toNat]?

/-- The IMG address of the sample at (x, y): `y * WIDTH + x` (R82). -/
def imgAddr (s : State) (x y : Nat) : Nat := y * s.width.toNat + x

/-- The number of addresses of the largest image, 65528 × 65528 (R80, D36). -/
def imgLimit : Nat := 65528 * 65528

/-- The bytes that host writes made while BUSY replaced at an IMG address, newest first (log 10). -/
def tornAt (s : State) (addr : Nat) : List Byte := (s.torn.filter fun c => c.1 = addr).map Prod.snd

/-- `MemRead(IMG, addr, 1)` (R82). A sample that the host wrote during the encode is any of the bytes it held (R97, U7). -/
def imgByte (s : State) (addr : Nat) : Byte :=
  let current := s.img.read Config.imgPowerOn addr
  match tornAt s addr with
  | [] => current
  | old :: older => (current :: old :: older).getD (Config.tornPick s.draws addr % (older.length + 2)) current

/-- `ImgRead(x, y)` (R15, R82). -/
def imgRead (s : State) (x y : Nat) : Byte := imgByte s (imgAddr s x y)

/-- `be16(v)`: the two bytes of a 16-bit field, most significant first (R16, R87). -/
def be16 (v : BitVec 16) : List Byte := [v.extractLsb' 8 8, v.extractLsb' 0 8]

/-- `clamp` (R14). -/
def clamp (n lo hi : Int) : Int := max lo (min hi n)

/-- The category of a coefficient or of a DC difference (R126). -/
def category (v : Int) : Nat := bitlen v.natAbs

/-- `compl_c(m)`: the complement of m in c bits (R14). -/
def complBits (c m : Nat) : Nat := 2 ^ c - 1 - m

/-- The magnitude field of v as a number of c bits: v itself, or the c-bit complement of |v| (R126, R231). -/
def magValue (v : Int) (c : Nat) : Nat := if 0 ≤ v then v.natAbs else complBits c v.natAbs

/-- The AC symbol byte: the run in the high nibble, the size in the low one (R125). -/
def acSymbol (run size : Nat) : Nat := run * 16 + size

/-- How many of the 64 entries are not 0 (R216). -/
def countNonzero (zz : Vector Int 64) : Fin 65 :=
  ⟨zz.toList.countP fun v => v ≠ 0, by
    have h := List.countP_le_length (p := fun v : Int => decide (v ≠ 0)) (l := zz.toList)
    simp only [Vector.length_toList] at h
    omega⟩

end Sys2Proof.Machine
end

