-- ==== Sys2Proof/Machine/Ops.lean ====
section
/-! DEFINITION. The shared operations: taking an exception (R348), completing an operation, appending to OUT (R266), the
bit writer (R261) and the coded items of the entropy coder (R120, R231). -/

namespace Sys2Proof.Machine

/-- What an instruction answers. -/
abbrev Result := Host.Outcome State Fault Refusal

/-- What a part of an operation answers: the state so far, or why the operation stops. -/
abbrev Res := Except Stop State

/-! ## State updates -/

/-- `PHASE <- p` (R15). -/
def State.goto (s : State) (p : Phase) : State := { s with phase := p }

/-- Write the accumulator and its bit count (R51). -/
def State.withBits (s : State) (acc accn : Nat) : State := { s with acc := acc, accn := accn }

/-- Write one byte of OUT at OUTLEN and increase OUTLEN by 1 (R84). -/
def State.pushOut (s : State) (byte : Byte) : State :=
  { s with out := s.out.write s.outlen byte, outlen := s.outlen + 1 }

/-- `NZ <- n` (R50). -/
def State.withNz (s : State) (n : Nat) : State := { s with nz := n }

/-- `PRED <- v` (R49). -/
def State.withPred (s : State) (v : Int) : State := { s with pred := v }

/-- The host's part of the state moves on. -/
def State.withInputs (s : State) (inputs : List Input) : State := { s with inputs := inputs }

/-! ## Exceptions -/

/-- Error entry (R348): the code and the value are recorded, STATUS becomes 100 and PHASE becomes ERROR; nothing else
changes. The only way out is a new ENCODE (R350), or reset. -/
def State.takeError (s : State) (r : Raise) : State :=
  { s with errCode := r.code, errInfo := r.info, status := .error, phase := .error }

/-- Complete an operation that began in `s0`. `raise` abandons the operation's own writes (R15, R348), so the exception
is taken from `s0` (log 14). -/
def finish (s0 : State) : Res → Result
  | .ok s => .next s
  | .error (.raise r) => .next (s0.takeError r)
  | .error (.fault f) => .fault f

/-- Then move PHASE on: the last action of every operation (R312). -/
def Res.goto (r : Res) (p : Phase) : Res := r.map fun s => s.goto p

/-! ## OUT -/

/-- OUTLEN has reached OUT_CAP (R84). -/
def State.outFull (s : State) : Bool :=
  match s.outCap with
  | none => false
  | some cap => decide (cap ≤ s.outlen)

/-- `OutAppend(b)` (R84, R266). -/
def append (byte : Byte) (s : State) : Res :=
  if s.outFull then .error (.raise ⟨.outputOverflow, BitVec.ofNat 32 s.outlen⟩) else .ok (s.pushOut byte)

/-- `Emit([b0, b1, ...])`: one OutAppend after another, no stuffing (R280). -/
def emit : List Byte → State → Res
  | [], s => .ok s
  | byte :: bytes, s => (append byte s).bind (emit bytes)

/-! ## The bit writer -/

/-- One byte of the entropy-coded segment: 0xFF is followed by its stuffing byte (R128, R261). -/
def emitEcs (byte : Byte) (s : State) : Res := emit (if byte = 0xFF#8 then [0xFF#8, 0x00#8] else [byte]) s

/-- The emit loop of BW.WRITE, at most `fuel` bytes: while ACCN ≥ 8, the oldest eight buffered bits go out (R261). -/
def drain : Nat → State → Res
  | 0, s => .ok s
  | fuel + 1, s =>
    if 8 ≤ s.accn then
      (emitEcs (BitVec.ofNat 8 (s.acc / 2 ^ (s.accn - 8))) (s.withBits (s.acc % 2 ^ (s.accn - 8)) (s.accn - 8))).bind
        (drain fuel)
    else .ok s

/-- `BwWrite(bits, nbits)` (R261). Each turn of the loop takes 8 of the ACCN bits, so ACCN / 8 turns are all. -/
def bwWrite (bits nbits : Nat) (s : State) : Res :=
  let accn := s.accn + nbits
  drain (accn / 8) (s.withBits (s.acc * 2 ^ nbits + bits % 2 ^ nbits) accn)

/-! ## Coded items -/

/-- Write a table's codeword; a symbol that has none is a model-level fault (R129, U5). -/
def writeCode (table : List (Nat × Codeword)) (symbol : Nat) (s : State) : Res :=
  match table.lookup symbol with
  | none => .error (.fault (.noCodeword symbol))
  | some cw => bwWrite cw.code cw.len s

/-- Write a magnitude field of c bits, if there is one (R231). -/
def writeMag (mag c : Nat) (s : State) : Res := if 0 < c then bwWrite mag c s else .ok s

/-- A coded DC item: the category's codeword, then its magnitude bits (R120). -/
def writeDc (category mag : Nat) (s : State) : Res := (writeCode Rom.dcHuff category s).bind (writeMag mag category)

/-- A coded AC item: the symbol's codeword, then its magnitude bits (R120). -/
def writeAc (symbol mag : Nat) (s : State) : Res := (writeCode Rom.acHuff symbol s).bind (writeMag mag (acSize symbol))

/-! ## Markers -/

/-- The two bytes of a marker (R113). -/
def markerBytes (code : Byte) : List Byte := [0xFF#8, code]

/-- A marker segment: marker, length, payload; the length counts itself and the payload (R114). -/
def segment (code : Byte) (payload : List Byte) : List Byte :=
  markerBytes code ++ be16 (BitVec.ofNat 16 (payload.length + 2)) ++ payload

end Sys2Proof.Machine
end

