-- ==== Sys2Proof/Machine/Blk.lean ====
section
/-! DEFINITION. The block raster partitioner: BLK.FETCH, BLK.NEXT (41_block_source.md). -/

namespace Sys2Proof.Machine

/-- The block at (BX, BY), row-major: element 8r + c is the sample at (BX + c, BY + r) (R181, R182). -/
def fetchBlock (s : State) : Vector Byte 64 :=
  tabulate fun i => imgRead s (s.blkX.toNat + i.val % 8) (s.blkY.toNat + i.val / 8)

/-- BLK.FETCH (R182). A cursor outside the image is the source's failed assertion, a model-level fault (R184, U6). -/
def execBlkFetch (s : State) : Result :=
  finish s <|
    if s.blkX < s.width && s.blkY < s.height then .ok ({ s with samp := fetchBlock s }.goto .fdct)
    else .error (.fault .blockOutsideImage)

/-- The cursor moves to (x, y); PHASE goes on to the next block, or past the loop when y has reached HEIGHT (R183). -/
def State.moveCursor (s : State) (x y : BitVec 16) : State :=
  { s with blkX := x, blkY := y }.goto (if y = s.height then .bwFinal else .blkFetch)

/-- BLK.NEXT (R183). -/
def execBlkNext (s : State) : Result :=
  .next (if s.blkX + 8 = s.width then s.moveCursor 0 (s.blkY + 8) else s.moveCursor (s.blkX + 8) s.blkY)

end Sys2Proof.Machine
end

