-- ==== Sys2Proof/Machine/Bw.lean ====
section
/-! DEFINITION. The bit writer's operation and the two sub-operations: BW.FINALIZE, BW.WRITE, OUT.APPEND
(45_bit_writer.md). -/

namespace Sys2Proof.Machine

/-- BW.FINALIZE (R264): the buffered bits are discarded. -/
def execBwFinalize (s : State) : Result := .next ((s.withBits 0 0).goto .hdrEoi)

/-- BW.WRITE (R261). -/
def execBwWrite (bits nbits : Nat) (s : State) : Result := finish s (bwWrite bits nbits s)

/-- OUT.APPEND (R266). -/
def execOutAppend (byte : Byte) (s : State) : Result := finish s (append byte s)

end Sys2Proof.Machine
end

