-- ==== Sys2Proof/Machine/Ent.lean ====
section
/-! DEFINITION. The entropy encoder: ENT.DC, ENT.AC, ENT.EOB (44_entropy_encoder.md). -/

namespace Sys2Proof.Machine

/-- ENT.DC (R232). -/
def execEntDc (s : State) : Result :=
  let dc := if 0 < s.len.val then s.zz[0] else 0
  let delta := dc - s.pred
  let c := category delta
  finish s <| Res.goto (writeDc c (magValue delta c) (s.withPred dc)) .entAc

/-- `while NZ >= 16: BwWrite(ACHUFF[0xF0]); NZ <- NZ - 16`, at most `fuel` turns (R236). -/
def writeZrls : Nat → State → Res
  | 0, s => .ok s
  | fuel + 1, s =>
    if 16 ≤ s.nz then (writeAc 0xF0 0 s).bind fun s => writeZrls fuel (s.withNz (s.nz - 16)) else .ok s

/-- One nonzero AC entry: its ZRLs, the run/size codeword, the magnitude bits; a category above 10 is a model-level fault
(R236, R239, R244). -/
def writeEntry (v : Int) (s : State) : Res :=
  (writeZrls (s.nz / 16) s).bind fun s =>
    let c := category v
    if 10 < c then .error (.fault (.noCodeword (acSymbol s.nz c)))
    else (writeAc (acSymbol s.nz c) (magValue v c) s).map fun s => s.withNz 0

/-- The scan of the entries ZZ[1], ZZ[2], ... (R236). -/
def scanAc : List Int → State → Res
  | [], s => .ok s
  | v :: rest, s => if v = 0 then scanAc rest (s.withNz (s.nz + 1)) else (writeEntry v s).bind (scanAc rest)

/-- The entries examined: ZZ[1..LEN-1], LEN being a count (R236, R237). -/
def scannedEntries (s : State) : List Int := (s.zz.toList.drop 1).take (s.len.val - 1)

/-- ENT.AC (R236). -/
def execEntAc (s : State) : Result := finish s <| Res.goto (scanAc (scannedEntries s) (s.withNz 0)) .entEob

/-- ENT.EOB (R240). -/
def execEntEob (s : State) : Result :=
  finish s <| Res.goto (if s.len.val < 64 then writeAc 0x00 0 s else .ok s) .blkNext

end Sys2Proof.Machine
end

