-- ==== Sys2Proof/Machine/Fdct.lean ====
section
/-! DEFINITION. The forward DCT-II 8×8: FDCT (42_forward_dct.md). The reference sum of R191 is the operation; the
separable form with the even/odd butterfly (R192, R194) is kept beside it as a second way to the same values. -/

namespace Sys2Proof.Machine

/-- The angle of `C(k)·cos((2j+1)kπ/16)` in units of π/16: for k = 0 it is 4, since C(0) = 1/√2 = cos(4π/16) (R191). -/
def dctAngle (k j : Nat) : Nat := if k = 0 then 4 else (2 * j + 1) * k

/-- The level-shifted sample s(x, y) - 128 (R191, R195). -/
def shifted (samp : Vector Byte 64) (x y : Fin 8) : Int := (samp[8 * y.val + x.val].toNat : Int) - 128

/-- F(u, v) of the block (R191): `(1/4)·Σ (s - 128)·(C(u) cos)·(C(v) cos)`, each product of two cosines being half the sum
of two, which makes the denominator 8. -/
def dctCoef (samp : Vector Byte 64) (u v : Fin 8) : ExactReal :=
  ⟨Cos8.sum ((List.finRange 8).flatMap fun y => (List.finRange 8).map fun x =>
      Cos8.smul (shifted samp x y) (twiceCosCos (dctAngle u x) (dctAngle v y))), 8⟩

/-- All 64 coefficients: COEF[8v + u] = F(u, v) (R190). -/
def dctBlock (samp : Vector Byte 64) : Vector ExactReal 64 :=
  tabulate fun i => dctCoef samp ⟨i.val % 8, Nat.mod_lt _ (by decide)⟩ ⟨i.val / 8, by omega⟩

/-- FDCT (R190): total on every 64 bytes. -/
def execFdct (s : State) : Result := .next ({ s with coef := dctBlock s.samp }.goto .quant)

/-- The even/odd butterfly of the 1-D transform D1 with the constants DCTK (R194). -/
def dct1 (t : Fin 8 → ExactReal) (k : Fin 8) : ExactReal :=
  let a (j : Fin 4) : ExactReal := (t ⟨j.val, by omega⟩).add (t ⟨7 - j.val, by omega⟩)
  let b (j : Fin 4) : ExactReal := (t ⟨j.val, by omega⟩).sub (t ⟨7 - j.val, by omega⟩)
  let times (i : Nat) (x : ExactReal) : ExactReal := (dctk i).mul x
  match k with
  | 0 => times 4 ((((a 0).add (a 1)).add (a 2)).add (a 3))
  | 4 => times 4 ((((a 0).sub (a 1)).sub (a 2)).add (a 3))
  | 2 => (times 2 ((a 0).sub (a 3))).add (times 6 ((a 1).sub (a 2)))
  | 6 => (times 6 ((a 0).sub (a 3))).sub (times 2 ((a 1).sub (a 2)))
  | 1 => (((times 1 (b 0)).add (times 3 (b 1))).add (times 5 (b 2))).add (times 7 (b 3))
  | 3 => (((times 3 (b 0)).sub (times 7 (b 1))).sub (times 1 (b 2))).sub (times 5 (b 3))
  | 5 => (((times 5 (b 0)).sub (times 1 (b 1))).add (times 7 (b 2))).add (times 3 (b 3))
  | 7 => (((times 7 (b 0)).sub (times 5 (b 1))).add (times 3 (b 2))).sub (times 1 (b 3))

/-- F(u, v) by the row pass and then the column pass (R192). -/
def dctFast (samp : Vector Byte 64) (u v : Fin 8) : ExactReal :=
  dct1 (fun y => dct1 (fun x => ExactReal.ofInt (shifted samp x y)) u) v

end Sys2Proof.Machine
end

