-- ==== Sys2Proof/Machine/Sequencer.lean ====
section
/-! DEFINITION. The sequencer's own operations: ENCODE, SEQ.CHECK, SEQ.DONE (47_sequencer.md). -/

namespace Sys2Proof.Machine

/-- ENCODE (R310): ignored while BUSY; otherwise the per-encode state is set (R60) and PHASE becomes CHECK. Data bits
31..1 are ignored (R111). Every host write of the image made before this START is seen (R96), so no sample is torn. -/
def execEncode (_ignored : BitVec 31) (s : State) : Result :=
  if s.busy then .next s
  else
    .next { s with
      status := .busy, errCode := .none, errInfo := 0, outlen := 0, pred := 0, acc := 0, accn := 0, blkX := 0, blkY := 0,
      phase := .check, torn := [] }

/-- A legal dimension: a positive multiple of 8 (R90, R311). -/
def legalDimension (d : BitVec 16) : Bool := decide (d.toNat ≠ 0) && decide (d.toNat % 8 = 0)

/-- SEQ.CHECK (R311). -/
def execSeqCheck (s : State) : Result :=
  finish s <|
    if legalDimension s.width && legalDimension s.height then .ok (s.goto .qtb)
    else .error (.raise ⟨.invalidDimension, s.height ++ s.width⟩)

/-- `SeqDone()` (R314). -/
def State.seqDone (s : State) : State := { s with status := .done, phase := .done }

/-- SEQ.DONE (R314). -/
def execSeqDone (s : State) : Result := .next s.seqDone

end Sys2Proof.Machine
end

