-- ==== Sys2Proof/Machine/Hdr.lean ====
section
/-! DEFINITION. The header writer (46_header_writer.md) and the marker and stuffing patterns (R113, R128). -/

namespace Sys2Proof.Machine

/-- Append a header part and move on (R280). -/
def header (bytes : List Byte) (p : Phase) (s : State) : Result := finish s <| Res.goto (emit bytes s) p

/-- Table bytes. -/
def tableBytes (l : List Nat) : List Byte := l.map (BitVec.ofNat 8)

/-- A DHT payload: class and identifier, the 16 counts, the symbols (R118). -/
def dhtPayload (tcTh : Byte) (counts syms : List Nat) : List Byte := tcTh :: tableBytes counts ++ tableBytes syms

/-- HDR.SOI (R282). -/
def execHdrSoi (s : State) : Result := header (markerBytes 0xD8) .hdrApp0 s

/-- HDR.APP0 (R283, R115). -/
def execHdrApp0 (s : State) : Result :=
  header (segment 0xE0 ([0x4A, 0x46, 0x49, 0x46, 0x00] ++ [0x01, 0x01] ++ [0x00] ++ be16 1 ++ be16 1 ++ [0x00, 0x00]))
    .hdrDqt s

/-- HDR.DQT (R284, R116): the table as stored, no permutation, no stuffing. -/
def execHdrDqt (s : State) : Result := header (segment 0xDB (0x00 :: s.qt.toList)) .hdrSof0 s

/-- HDR.SOF0 (R285, R117): height first. -/
def execHdrSof0 (s : State) : Result :=
  header (segment 0xC0 ([0x08] ++ be16 s.height ++ be16 s.width ++ [0x01] ++ [0x01, 0x11, 0x00])) .hdrDhtDc s

/-- HDR.DHT_DC (R286, R118). -/
def execHdrDhtDc (s : State) : Result := header (segment 0xC4 (dhtPayload 0x00 Rom.dcCounts Rom.dcSyms)) .hdrDhtAc s

/-- HDR.DHT_AC (R287, R118). -/
def execHdrDhtAc (s : State) : Result := header (segment 0xC4 (dhtPayload 0x10 Rom.acCounts Rom.acSyms)) .hdrSos s

/-- HDR.SOS (R288, R119). -/
def execHdrSos (s : State) : Result := header (segment 0xDA [0x01, 0x01, 0x00, 0x00, 0x3F, 0x00]) .blkFetch s

/-- HDR.EOI (R289): its last action is SEQ.DONE (R314). -/
def execHdrEoi (s : State) : Result := finish s <| (emit (markerBytes 0xD9) s).map State.seqDone

/-- Emission of one marker by itself (R113): its two bytes go through OUT.APPEND, unstuffed (R128). -/
def emitMarker (code : Byte) (s : State) : Result := finish s (emit (markerBytes code) s)

/-- MARKER.SOI (R113). -/
def execMarkerSoi (s : State) : Result := emitMarker 0xD8 s
/-- MARKER.APP0 (R113). -/
def execMarkerApp0 (s : State) : Result := emitMarker 0xE0 s
/-- MARKER.DQT (R113). -/
def execMarkerDqt (s : State) : Result := emitMarker 0xDB s
/-- MARKER.SOF0 (R113). -/
def execMarkerSof0 (s : State) : Result := emitMarker 0xC0 s
/-- MARKER.DHT (R113). -/
def execMarkerDht (s : State) : Result := emitMarker 0xC4 s
/-- MARKER.SOS (R113). -/
def execMarkerSos (s : State) : Result := emitMarker 0xDA s
/-- MARKER.EOI (R113). -/
def execMarkerEoi (s : State) : Result := emitMarker 0xD9 s

/-- STUFF (R128): a data byte 0xFF of the entropy-coded segment with its escape. -/
def execStuff (s : State) : Result := finish s (emitEcs 0xFF#8 s)

end Sys2Proof.Machine
end

