-- ==== Sys2Proof/Machine/HuffAc.lean ====
section
/-! DEFINITION. The emission of one coded AC item: a row of HUFF_AC with its magnitude bits (R120, R124). -/

namespace Sys2Proof.Machine

/-- Emit the symbol's codeword, then its magnitude bits, through BW.WRITE (R120, R239). -/
def emitAc (symbol mag : Nat) (s : State) : Result := finish s (writeAc symbol mag s)

/-- AC.EOB (R124). -/
def execAcEob (s : State) : Result := emitAc 0x00 0 s
/-- AC.R0S1 (R124). -/
def execAcR0S1 (mag : BitVec 1) (s : State) : Result := emitAc 0x01 mag.toNat s
/-- AC.R0S2 (R124). -/
def execAcR0S2 (mag : BitVec 2) (s : State) : Result := emitAc 0x02 mag.toNat s
/-- AC.R0S3 (R124). -/
def execAcR0S3 (mag : BitVec 3) (s : State) : Result := emitAc 0x03 mag.toNat s
/-- AC.R0S4 (R124). -/
def execAcR0S4 (mag : BitVec 4) (s : State) : Result := emitAc 0x04 mag.toNat s
/-- AC.R0S5 (R124). -/
def execAcR0S5 (mag : BitVec 5) (s : State) : Result := emitAc 0x05 mag.toNat s
/-- AC.R0S6 (R124). -/
def execAcR0S6 (mag : BitVec 6) (s : State) : Result := emitAc 0x06 mag.toNat s
/-- AC.R0S7 (R124). -/
def execAcR0S7 (mag : BitVec 7) (s : State) : Result := emitAc 0x07 mag.toNat s
/-- AC.R0S8 (R124). -/
def execAcR0S8 (mag : BitVec 8) (s : State) : Result := emitAc 0x08 mag.toNat s
/-- AC.R0S9 (R124). -/
def execAcR0S9 (mag : BitVec 9) (s : State) : Result := emitAc 0x09 mag.toNat s
/-- AC.R0S10 (R124). -/
def execAcR0S10 (mag : BitVec 10) (s : State) : Result := emitAc 0x0A mag.toNat s
/-- AC.R1S1 (R124). -/
def execAcR1S1 (mag : BitVec 1) (s : State) : Result := emitAc 0x11 mag.toNat s
/-- AC.R1S2 (R124). -/
def execAcR1S2 (mag : BitVec 2) (s : State) : Result := emitAc 0x12 mag.toNat s
/-- AC.R1S3 (R124). -/
def execAcR1S3 (mag : BitVec 3) (s : State) : Result := emitAc 0x13 mag.toNat s
/-- AC.R1S4 (R124). -/
def execAcR1S4 (mag : BitVec 4) (s : State) : Result := emitAc 0x14 mag.toNat s
/-- AC.R1S5 (R124). -/
def execAcR1S5 (mag : BitVec 5) (s : State) : Result := emitAc 0x15 mag.toNat s
/-- AC.R1S6 (R124). -/
def execAcR1S6 (mag : BitVec 6) (s : State) : Result := emitAc 0x16 mag.toNat s
/-- AC.R1S7 (R124). -/
def execAcR1S7 (mag : BitVec 7) (s : State) : Result := emitAc 0x17 mag.toNat s
/-- AC.R1S8 (R124). -/
def execAcR1S8 (mag : BitVec 8) (s : State) : Result := emitAc 0x18 mag.toNat s
/-- AC.R1S9 (R124). -/
def execAcR1S9 (mag : BitVec 9) (s : State) : Result := emitAc 0x19 mag.toNat s
/-- AC.R1S10 (R124). -/
def execAcR1S10 (mag : BitVec 10) (s : State) : Result := emitAc 0x1A mag.toNat s
/-- AC.R2S1 (R124). -/
def execAcR2S1 (mag : BitVec 1) (s : State) : Result := emitAc 0x21 mag.toNat s
/-- AC.R2S2 (R124). -/
def execAcR2S2 (mag : BitVec 2) (s : State) : Result := emitAc 0x22 mag.toNat s
/-- AC.R2S3 (R124). -/
def execAcR2S3 (mag : BitVec 3) (s : State) : Result := emitAc 0x23 mag.toNat s
/-- AC.R2S4 (R124). -/
def execAcR2S4 (mag : BitVec 4) (s : State) : Result := emitAc 0x24 mag.toNat s
/-- AC.R2S5 (R124). -/
def execAcR2S5 (mag : BitVec 5) (s : State) : Result := emitAc 0x25 mag.toNat s
/-- AC.R2S6 (R124). -/
def execAcR2S6 (mag : BitVec 6) (s : State) : Result := emitAc 0x26 mag.toNat s
/-- AC.R2S7 (R124). -/
def execAcR2S7 (mag : BitVec 7) (s : State) : Result := emitAc 0x27 mag.toNat s
/-- AC.R2S8 (R124). -/
def execAcR2S8 (mag : BitVec 8) (s : State) : Result := emitAc 0x28 mag.toNat s
/-- AC.R2S9 (R124). -/
def execAcR2S9 (mag : BitVec 9) (s : State) : Result := emitAc 0x29 mag.toNat s
/-- AC.R2S10 (R124). -/
def execAcR2S10 (mag : BitVec 10) (s : State) : Result := emitAc 0x2A mag.toNat s
/-- AC.R3S1 (R124). -/
def execAcR3S1 (mag : BitVec 1) (s : State) : Result := emitAc 0x31 mag.toNat s
/-- AC.R3S2 (R124). -/
def execAcR3S2 (mag : BitVec 2) (s : State) : Result := emitAc 0x32 mag.toNat s
/-- AC.R3S3 (R124). -/
def execAcR3S3 (mag : BitVec 3) (s : State) : Result := emitAc 0x33 mag.toNat s
/-- AC.R3S4 (R124). -/
def execAcR3S4 (mag : BitVec 4) (s : State) : Result := emitAc 0x34 mag.toNat s
/-- AC.R3S5 (R124). -/
def execAcR3S5 (mag : BitVec 5) (s : State) : Result := emitAc 0x35 mag.toNat s
/-- AC.R3S6 (R124). -/
def execAcR3S6 (mag : BitVec 6) (s : State) : Result := emitAc 0x36 mag.toNat s
/-- AC.R3S7 (R124). -/
def execAcR3S7 (mag : BitVec 7) (s : State) : Result := emitAc 0x37 mag.toNat s
/-- AC.R3S8 (R124). -/
def execAcR3S8 (mag : BitVec 8) (s : State) : Result := emitAc 0x38 mag.toNat s
/-- AC.R3S9 (R124). -/
def execAcR3S9 (mag : BitVec 9) (s : State) : Result := emitAc 0x39 mag.toNat s
/-- AC.R3S10 (R124). -/
def execAcR3S10 (mag : BitVec 10) (s : State) : Result := emitAc 0x3A mag.toNat s
/-- AC.R4S1 (R124). -/
def execAcR4S1 (mag : BitVec 1) (s : State) : Result := emitAc 0x41 mag.toNat s
/-- AC.R4S2 (R124). -/
def execAcR4S2 (mag : BitVec 2) (s : State) : Result := emitAc 0x42 mag.toNat s
/-- AC.R4S3 (R124). -/
def execAcR4S3 (mag : BitVec 3) (s : State) : Result := emitAc 0x43 mag.toNat s
/-- AC.R4S4 (R124). -/
def execAcR4S4 (mag : BitVec 4) (s : State) : Result := emitAc 0x44 mag.toNat s
/-- AC.R4S5 (R124). -/
def execAcR4S5 (mag : BitVec 5) (s : State) : Result := emitAc 0x45 mag.toNat s
/-- AC.R4S6 (R124). -/
def execAcR4S6 (mag : BitVec 6) (s : State) : Result := emitAc 0x46 mag.toNat s
/-- AC.R4S7 (R124). -/
def execAcR4S7 (mag : BitVec 7) (s : State) : Result := emitAc 0x47 mag.toNat s
/-- AC.R4S8 (R124). -/
def execAcR4S8 (mag : BitVec 8) (s : State) : Result := emitAc 0x48 mag.toNat s
/-- AC.R4S9 (R124). -/
def execAcR4S9 (mag : BitVec 9) (s : State) : Result := emitAc 0x49 mag.toNat s
/-- AC.R4S10 (R124). -/
def execAcR4S10 (mag : BitVec 10) (s : State) : Result := emitAc 0x4A mag.toNat s
/-- AC.R5S1 (R124). -/
def execAcR5S1 (mag : BitVec 1) (s : State) : Result := emitAc 0x51 mag.toNat s
/-- AC.R5S2 (R124). -/
def execAcR5S2 (mag : BitVec 2) (s : State) : Result := emitAc 0x52 mag.toNat s
/-- AC.R5S3 (R124). -/
def execAcR5S3 (mag : BitVec 3) (s : State) : Result := emitAc 0x53 mag.toNat s
/-- AC.R5S4 (R124). -/
def execAcR5S4 (mag : BitVec 4) (s : State) : Result := emitAc 0x54 mag.toNat s
/-- AC.R5S5 (R124). -/
def execAcR5S5 (mag : BitVec 5) (s : State) : Result := emitAc 0x55 mag.toNat s
/-- AC.R5S6 (R124). -/
def execAcR5S6 (mag : BitVec 6) (s : State) : Result := emitAc 0x56 mag.toNat s
/-- AC.R5S7 (R124). -/
def execAcR5S7 (mag : BitVec 7) (s : State) : Result := emitAc 0x57 mag.toNat s
/-- AC.R5S8 (R124). -/
def execAcR5S8 (mag : BitVec 8) (s : State) : Result := emitAc 0x58 mag.toNat s
/-- AC.R5S9 (R124). -/
def execAcR5S9 (mag : BitVec 9) (s : State) : Result := emitAc 0x59 mag.toNat s
/-- AC.R5S10 (R124). -/
def execAcR5S10 (mag : BitVec 10) (s : State) : Result := emitAc 0x5A mag.toNat s
/-- AC.R6S1 (R124). -/
def execAcR6S1 (mag : BitVec 1) (s : State) : Result := emitAc 0x61 mag.toNat s
/-- AC.R6S2 (R124). -/
def execAcR6S2 (mag : BitVec 2) (s : State) : Result := emitAc 0x62 mag.toNat s
/-- AC.R6S3 (R124). -/
def execAcR6S3 (mag : BitVec 3) (s : State) : Result := emitAc 0x63 mag.toNat s
/-- AC.R6S4 (R124). -/
def execAcR6S4 (mag : BitVec 4) (s : State) : Result := emitAc 0x64 mag.toNat s
/-- AC.R6S5 (R124). -/
def execAcR6S5 (mag : BitVec 5) (s : State) : Result := emitAc 0x65 mag.toNat s
/-- AC.R6S6 (R124). -/
def execAcR6S6 (mag : BitVec 6) (s : State) : Result := emitAc 0x66 mag.toNat s
/-- AC.R6S7 (R124). -/
def execAcR6S7 (mag : BitVec 7) (s : State) : Result := emitAc 0x67 mag.toNat s
/-- AC.R6S8 (R124). -/
def execAcR6S8 (mag : BitVec 8) (s : State) : Result := emitAc 0x68 mag.toNat s
/-- AC.R6S9 (R124). -/
def execAcR6S9 (mag : BitVec 9) (s : State) : Result := emitAc 0x69 mag.toNat s
/-- AC.R6S10 (R124). -/
def execAcR6S10 (mag : BitVec 10) (s : State) : Result := emitAc 0x6A mag.toNat s
/-- AC.R7S1 (R124). -/
def execAcR7S1 (mag : BitVec 1) (s : State) : Result := emitAc 0x71 mag.toNat s
/-- AC.R7S2 (R124). -/
def execAcR7S2 (mag : BitVec 2) (s : State) : Result := emitAc 0x72 mag.toNat s
/-- AC.R7S3 (R124). -/
def execAcR7S3 (mag : BitVec 3) (s : State) : Result := emitAc 0x73 mag.toNat s
/-- AC.R7S4 (R124). -/
def execAcR7S4 (mag : BitVec 4) (s : State) : Result := emitAc 0x74 mag.toNat s
/-- AC.R7S5 (R124). -/
def execAcR7S5 (mag : BitVec 5) (s : State) : Result := emitAc 0x75 mag.toNat s
/-- AC.R7S6 (R124). -/
def execAcR7S6 (mag : BitVec 6) (s : State) : Result := emitAc 0x76 mag.toNat s
/-- AC.R7S7 (R124). -/
def execAcR7S7 (mag : BitVec 7) (s : State) : Result := emitAc 0x77 mag.toNat s
/-- AC.R7S8 (R124). -/
def execAcR7S8 (mag : BitVec 8) (s : State) : Result := emitAc 0x78 mag.toNat s
/-- AC.R7S9 (R124). -/
def execAcR7S9 (mag : BitVec 9) (s : State) : Result := emitAc 0x79 mag.toNat s
/-- AC.R7S10 (R124). -/
def execAcR7S10 (mag : BitVec 10) (s : State) : Result := emitAc 0x7A mag.toNat s
/-- AC.R8S1 (R124). -/
def execAcR8S1 (mag : BitVec 1) (s : State) : Result := emitAc 0x81 mag.toNat s
/-- AC.R8S2 (R124). -/
def execAcR8S2 (mag : BitVec 2) (s : State) : Result := emitAc 0x82 mag.toNat s
/-- AC.R8S3 (R124). -/
def execAcR8S3 (mag : BitVec 3) (s : State) : Result := emitAc 0x83 mag.toNat s
/-- AC.R8S4 (R124). -/
def execAcR8S4 (mag : BitVec 4) (s : State) : Result := emitAc 0x84 mag.toNat s
/-- AC.R8S5 (R124). -/
def execAcR8S5 (mag : BitVec 5) (s : State) : Result := emitAc 0x85 mag.toNat s
/-- AC.R8S6 (R124). -/
def execAcR8S6 (mag : BitVec 6) (s : State) : Result := emitAc 0x86 mag.toNat s
/-- AC.R8S7 (R124). -/
def execAcR8S7 (mag : BitVec 7) (s : State) : Result := emitAc 0x87 mag.toNat s
/-- AC.R8S8 (R124). -/
def execAcR8S8 (mag : BitVec 8) (s : State) : Result := emitAc 0x88 mag.toNat s
/-- AC.R8S9 (R124). -/
def execAcR8S9 (mag : BitVec 9) (s : State) : Result := emitAc 0x89 mag.toNat s
/-- AC.R8S10 (R124). -/
def execAcR8S10 (mag : BitVec 10) (s : State) : Result := emitAc 0x8A mag.toNat s
/-- AC.R9S1 (R124). -/
def execAcR9S1 (mag : BitVec 1) (s : State) : Result := emitAc 0x91 mag.toNat s
/-- AC.R9S2 (R124). -/
def execAcR9S2 (mag : BitVec 2) (s : State) : Result := emitAc 0x92 mag.toNat s
/-- AC.R9S3 (R124). -/
def execAcR9S3 (mag : BitVec 3) (s : State) : Result := emitAc 0x93 mag.toNat s
/-- AC.R9S4 (R124). -/
def execAcR9S4 (mag : BitVec 4) (s : State) : Result := emitAc 0x94 mag.toNat s
/-- AC.R9S5 (R124). -/
def execAcR9S5 (mag : BitVec 5) (s : State) : Result := emitAc 0x95 mag.toNat s
/-- AC.R9S6 (R124). -/
def execAcR9S6 (mag : BitVec 6) (s : State) : Result := emitAc 0x96 mag.toNat s
/-- AC.R9S7 (R124). -/
def execAcR9S7 (mag : BitVec 7) (s : State) : Result := emitAc 0x97 mag.toNat s
/-- AC.R9S8 (R124). -/
def execAcR9S8 (mag : BitVec 8) (s : State) : Result := emitAc 0x98 mag.toNat s
/-- AC.R9S9 (R124). -/
def execAcR9S9 (mag : BitVec 9) (s : State) : Result := emitAc 0x99 mag.toNat s
/-- AC.R9S10 (R124). -/
def execAcR9S10 (mag : BitVec 10) (s : State) : Result := emitAc 0x9A mag.toNat s
/-- AC.R10S1 (R124). -/
def execAcR10S1 (mag : BitVec 1) (s : State) : Result := emitAc 0xA1 mag.toNat s
/-- AC.R10S2 (R124). -/
def execAcR10S2 (mag : BitVec 2) (s : State) : Result := emitAc 0xA2 mag.toNat s
/-- AC.R10S3 (R124). -/
def execAcR10S3 (mag : BitVec 3) (s : State) : Result := emitAc 0xA3 mag.toNat s
/-- AC.R10S4 (R124). -/
def execAcR10S4 (mag : BitVec 4) (s : State) : Result := emitAc 0xA4 mag.toNat s
/-- AC.R10S5 (R124). -/
def execAcR10S5 (mag : BitVec 5) (s : State) : Result := emitAc 0xA5 mag.toNat s
/-- AC.R10S6 (R124). -/
def execAcR10S6 (mag : BitVec 6) (s : State) : Result := emitAc 0xA6 mag.toNat s
/-- AC.R10S7 (R124). -/
def execAcR10S7 (mag : BitVec 7) (s : State) : Result := emitAc 0xA7 mag.toNat s
/-- AC.R10S8 (R124). -/
def execAcR10S8 (mag : BitVec 8) (s : State) : Result := emitAc 0xA8 mag.toNat s
/-- AC.R10S9 (R124). -/
def execAcR10S9 (mag : BitVec 9) (s : State) : Result := emitAc 0xA9 mag.toNat s
/-- AC.R10S10 (R124). -/
def execAcR10S10 (mag : BitVec 10) (s : State) : Result := emitAc 0xAA mag.toNat s
/-- AC.R11S1 (R124). -/
def execAcR11S1 (mag : BitVec 1) (s : State) : Result := emitAc 0xB1 mag.toNat s
/-- AC.R11S2 (R124). -/
def execAcR11S2 (mag : BitVec 2) (s : State) : Result := emitAc 0xB2 mag.toNat s
/-- AC.R11S3 (R124). -/
def execAcR11S3 (mag : BitVec 3) (s : State) : Result := emitAc 0xB3 mag.toNat s
/-- AC.R11S4 (R124). -/
def execAcR11S4 (mag : BitVec 4) (s : State) : Result := emitAc 0xB4 mag.toNat s
/-- AC.R11S5 (R124). -/
def execAcR11S5 (mag : BitVec 5) (s : State) : Result := emitAc 0xB5 mag.toNat s
/-- AC.R11S6 (R124). -/
def execAcR11S6 (mag : BitVec 6) (s : State) : Result := emitAc 0xB6 mag.toNat s
/-- AC.R11S7 (R124). -/
def execAcR11S7 (mag : BitVec 7) (s : State) : Result := emitAc 0xB7 mag.toNat s
/-- AC.R11S8 (R124). -/
def execAcR11S8 (mag : BitVec 8) (s : State) : Result := emitAc 0xB8 mag.toNat s
/-- AC.R11S9 (R124). -/
def execAcR11S9 (mag : BitVec 9) (s : State) : Result := emitAc 0xB9 mag.toNat s
/-- AC.R11S10 (R124). -/
def execAcR11S10 (mag : BitVec 10) (s : State) : Result := emitAc 0xBA mag.toNat s
/-- AC.R12S1 (R124). -/
def execAcR12S1 (mag : BitVec 1) (s : State) : Result := emitAc 0xC1 mag.toNat s
/-- AC.R12S2 (R124). -/
def execAcR12S2 (mag : BitVec 2) (s : State) : Result := emitAc 0xC2 mag.toNat s
/-- AC.R12S3 (R124). -/
def execAcR12S3 (mag : BitVec 3) (s : State) : Result := emitAc 0xC3 mag.toNat s
/-- AC.R12S4 (R124). -/
def execAcR12S4 (mag : BitVec 4) (s : State) : Result := emitAc 0xC4 mag.toNat s
/-- AC.R12S5 (R124). -/
def execAcR12S5 (mag : BitVec 5) (s : State) : Result := emitAc 0xC5 mag.toNat s
/-- AC.R12S6 (R124). -/
def execAcR12S6 (mag : BitVec 6) (s : State) : Result := emitAc 0xC6 mag.toNat s
/-- AC.R12S7 (R124). -/
def execAcR12S7 (mag : BitVec 7) (s : State) : Result := emitAc 0xC7 mag.toNat s
/-- AC.R12S8 (R124). -/
def execAcR12S8 (mag : BitVec 8) (s : State) : Result := emitAc 0xC8 mag.toNat s
/-- AC.R12S9 (R124). -/
def execAcR12S9 (mag : BitVec 9) (s : State) : Result := emitAc 0xC9 mag.toNat s
/-- AC.R12S10 (R124). -/
def execAcR12S10 (mag : BitVec 10) (s : State) : Result := emitAc 0xCA mag.toNat s
/-- AC.R13S1 (R124). -/
def execAcR13S1 (mag : BitVec 1) (s : State) : Result := emitAc 0xD1 mag.toNat s
/-- AC.R13S2 (R124). -/
def execAcR13S2 (mag : BitVec 2) (s : State) : Result := emitAc 0xD2 mag.toNat s
/-- AC.R13S3 (R124). -/
def execAcR13S3 (mag : BitVec 3) (s : State) : Result := emitAc 0xD3 mag.toNat s
/-- AC.R13S4 (R124). -/
def execAcR13S4 (mag : BitVec 4) (s : State) : Result := emitAc 0xD4 mag.toNat s
/-- AC.R13S5 (R124). -/
def execAcR13S5 (mag : BitVec 5) (s : State) : Result := emitAc 0xD5 mag.toNat s
/-- AC.R13S6 (R124). -/
def execAcR13S6 (mag : BitVec 6) (s : State) : Result := emitAc 0xD6 mag.toNat s
/-- AC.R13S7 (R124). -/
def execAcR13S7 (mag : BitVec 7) (s : State) : Result := emitAc 0xD7 mag.toNat s
/-- AC.R13S8 (R124). -/
def execAcR13S8 (mag : BitVec 8) (s : State) : Result := emitAc 0xD8 mag.toNat s
/-- AC.R13S9 (R124). -/
def execAcR13S9 (mag : BitVec 9) (s : State) : Result := emitAc 0xD9 mag.toNat s
/-- AC.R13S10 (R124). -/
def execAcR13S10 (mag : BitVec 10) (s : State) : Result := emitAc 0xDA mag.toNat s
/-- AC.R14S1 (R124). -/
def execAcR14S1 (mag : BitVec 1) (s : State) : Result := emitAc 0xE1 mag.toNat s
/-- AC.R14S2 (R124). -/
def execAcR14S2 (mag : BitVec 2) (s : State) : Result := emitAc 0xE2 mag.toNat s
/-- AC.R14S3 (R124). -/
def execAcR14S3 (mag : BitVec 3) (s : State) : Result := emitAc 0xE3 mag.toNat s
/-- AC.R14S4 (R124). -/
def execAcR14S4 (mag : BitVec 4) (s : State) : Result := emitAc 0xE4 mag.toNat s
/-- AC.R14S5 (R124). -/
def execAcR14S5 (mag : BitVec 5) (s : State) : Result := emitAc 0xE5 mag.toNat s
/-- AC.R14S6 (R124). -/
def execAcR14S6 (mag : BitVec 6) (s : State) : Result := emitAc 0xE6 mag.toNat s
/-- AC.R14S7 (R124). -/
def execAcR14S7 (mag : BitVec 7) (s : State) : Result := emitAc 0xE7 mag.toNat s
/-- AC.R14S8 (R124). -/
def execAcR14S8 (mag : BitVec 8) (s : State) : Result := emitAc 0xE8 mag.toNat s
/-- AC.R14S9 (R124). -/
def execAcR14S9 (mag : BitVec 9) (s : State) : Result := emitAc 0xE9 mag.toNat s
/-- AC.R14S10 (R124). -/
def execAcR14S10 (mag : BitVec 10) (s : State) : Result := emitAc 0xEA mag.toNat s
/-- AC.ZRL (R124). -/
def execAcZrl (s : State) : Result := emitAc 0xF0 0 s
/-- AC.R15S1 (R124). -/
def execAcR15S1 (mag : BitVec 1) (s : State) : Result := emitAc 0xF1 mag.toNat s
/-- AC.R15S2 (R124). -/
def execAcR15S2 (mag : BitVec 2) (s : State) : Result := emitAc 0xF2 mag.toNat s
/-- AC.R15S3 (R124). -/
def execAcR15S3 (mag : BitVec 3) (s : State) : Result := emitAc 0xF3 mag.toNat s
/-- AC.R15S4 (R124). -/
def execAcR15S4 (mag : BitVec 4) (s : State) : Result := emitAc 0xF4 mag.toNat s
/-- AC.R15S5 (R124). -/
def execAcR15S5 (mag : BitVec 5) (s : State) : Result := emitAc 0xF5 mag.toNat s
/-- AC.R15S6 (R124). -/
def execAcR15S6 (mag : BitVec 6) (s : State) : Result := emitAc 0xF6 mag.toNat s
/-- AC.R15S7 (R124). -/
def execAcR15S7 (mag : BitVec 7) (s : State) : Result := emitAc 0xF7 mag.toNat s
/-- AC.R15S8 (R124). -/
def execAcR15S8 (mag : BitVec 8) (s : State) : Result := emitAc 0xF8 mag.toNat s
/-- AC.R15S9 (R124). -/
def execAcR15S9 (mag : BitVec 9) (s : State) : Result := emitAc 0xF9 mag.toNat s
/-- AC.R15S10 (R124). -/
def execAcR15S10 (mag : BitVec 10) (s : State) : Result := emitAc 0xFA mag.toNat s

end Sys2Proof.Machine
end

