-- ==== Sys2Proof/Machine/HuffDc.lean ====
section
/-! DEFINITION. The emission of one coded DC item: a row of HUFF_DC with its magnitude bits (R120, R122). -/

namespace Sys2Proof.Machine

/-- Emit the category's codeword, then its magnitude bits, through BW.WRITE (R120, R231). -/
def emitDc (category mag : Nat) (s : State) : Result := finish s (writeDc category mag s)

/-- DC.CAT0 (R122). -/
def execDcCat0 (s : State) : Result := emitDc 0 0 s
/-- DC.CAT1 (R122). -/
def execDcCat1 (mag : BitVec 1) (s : State) : Result := emitDc 1 mag.toNat s
/-- DC.CAT2 (R122). -/
def execDcCat2 (mag : BitVec 2) (s : State) : Result := emitDc 2 mag.toNat s
/-- DC.CAT3 (R122). -/
def execDcCat3 (mag : BitVec 3) (s : State) : Result := emitDc 3 mag.toNat s
/-- DC.CAT4 (R122). -/
def execDcCat4 (mag : BitVec 4) (s : State) : Result := emitDc 4 mag.toNat s
/-- DC.CAT5 (R122). -/
def execDcCat5 (mag : BitVec 5) (s : State) : Result := emitDc 5 mag.toNat s
/-- DC.CAT6 (R122). -/
def execDcCat6 (mag : BitVec 6) (s : State) : Result := emitDc 6 mag.toNat s
/-- DC.CAT7 (R122). -/
def execDcCat7 (mag : BitVec 7) (s : State) : Result := emitDc 7 mag.toNat s
/-- DC.CAT8 (R122). -/
def execDcCat8 (mag : BitVec 8) (s : State) : Result := emitDc 8 mag.toNat s
/-- DC.CAT9 (R122). -/
def execDcCat9 (mag : BitVec 9) (s : State) : Result := emitDc 9 mag.toNat s
/-- DC.CAT10 (R122). -/
def execDcCat10 (mag : BitVec 10) (s : State) : Result := emitDc 10 mag.toNat s
/-- DC.CAT11 (R122). -/
def execDcCat11 (mag : BitVec 11) (s : State) : Result := emitDc 11 mag.toNat s

end Sys2Proof.Machine
end

