-- ==== Sys2Proof/Machine/Qtb.lean ====
section
/-! DEFINITION. The quantization-table builder: QTB.BUILD (40_qtable_builder.md). -/

namespace Sys2Proof.Machine

/-- The scale factor as an exact fraction, numerator and positive denominator: 50/q below 50, else 2 - q/50 (R163). -/
def qtScale (q : Int) : Int × Int := if q < 50 then (50, q) else (100 - q, 50)

/-- `clamp(trunc(b * scale + 1/2), 0, 255)` over one denominator (R162). -/
def qtEntry (b : Nat) (q : Int) : Int :=
  clamp ((2 * b * (qtScale q).1 + (qtScale q).2).tdiv (2 * (qtScale q).2)) 0 255

/-- The quantization table of a quality (R160). -/
def qtTable (q : Int) : Vector Byte 64 := tabulate fun i => BitVec.ofNat 8 (qtEntry Rom.base[i] q).toNat

/-- QTB.BUILD (R160, R161). -/
def execQtbBuild (s : State) : Result :=
  finish s <|
    if s.quality.toInt ≤ 0 then .error (.raise ⟨.invalidQuality, s.quality.signExtend 32⟩)
    else .ok ({ s with qt := qtTable s.quality.toInt }.goto .hdrSoi)

end Sys2Proof.Machine
end

