-- ==== Sys2Proof/Machine/Quant.lean ====
section
/-! DEFINITION. The quantizer and the zigzag scanner: QUANT, ZIGZAG (43_quantizer_zigzag.md). -/

namespace Sys2Proof.Machine

/-- The least index of a zero entry of the table, if there is one (R211). -/
def zeroEntry (qt : Vector Byte 64) : Option (Fin 64) := (List.finRange 64).find? fun i => decide (qt[i] = 0#8)

/-- COEF[i] / QT[i], the same index i in both (R211, R212). -/
def quotients (s : State) : Vector ExactReal 64 := tabulate fun i => s.coef[i].divNat s.qt[i].toNat

/-- QUANT (R211). -/
def execQuant (s : State) : Result :=
  finish s <|
    match zeroEntry s.qt with
    | some i => .error (.raise ⟨.degenerateQuantEntry, BitVec.ofNat 32 i.val⟩)
    | none => .ok ({ s with quo := quotients s }.goto .zigzag)

/-- ZZ[k] = trunc(QUO[ZIGZAG[k]]) (R214, R215). -/
def scanned (quo : Vector ExactReal 64) : Vector Int 64 := tabulate fun k => quo[Rom.zigzag[k]].trunc

/-- ZIGZAG (R214): LEN is the count of nonzero entries, not a position (R216). -/
def execZigzag (s : State) : Result :=
  let zz := scanned s.quo
  .next ({ s with zz := zz, len := countNonzero zz }.goto .entDc)

end Sys2Proof.Machine
end

