-- ==== Sys2Proof/Machine/Dispatch.lean ====
section
/-! DEFINITION. The dispatch: one arm per row of spec/opcode_table.json, each a call of its meaning. -/

namespace Sys2Proof.Machine

def exec (i : Instr) (s : State) : Host.Outcome State Fault Refusal :=
  match i with
  | .encode ignored => Sys2Proof.Machine.execEncode ignored s
  | .seqCheck => Sys2Proof.Machine.execSeqCheck s
  | .qtbBuild => Sys2Proof.Machine.execQtbBuild s
  | .hdrSoi => Sys2Proof.Machine.execHdrSoi s
  | .hdrApp0 => Sys2Proof.Machine.execHdrApp0 s
  | .hdrDqt => Sys2Proof.Machine.execHdrDqt s
  | .hdrSof0 => Sys2Proof.Machine.execHdrSof0 s
  | .hdrDhtDc => Sys2Proof.Machine.execHdrDhtDc s
  | .hdrDhtAc => Sys2Proof.Machine.execHdrDhtAc s
  | .hdrSos => Sys2Proof.Machine.execHdrSos s
  | .blkFetch => Sys2Proof.Machine.execBlkFetch s
  | .fdct => Sys2Proof.Machine.execFdct s
  | .quant => Sys2Proof.Machine.execQuant s
  | .zigzag => Sys2Proof.Machine.execZigzag s
  | .entDc => Sys2Proof.Machine.execEntDc s
  | .entAc => Sys2Proof.Machine.execEntAc s
  | .entEob => Sys2Proof.Machine.execEntEob s
  | .blkNext => Sys2Proof.Machine.execBlkNext s
  | .bwFinalize => Sys2Proof.Machine.execBwFinalize s
  | .hdrEoi => Sys2Proof.Machine.execHdrEoi s
  | .seqDone => Sys2Proof.Machine.execSeqDone s
  | .bwWrite bits nbits => Sys2Proof.Machine.execBwWrite bits nbits s
  | .outAppend byte => Sys2Proof.Machine.execOutAppend byte s
  | .markerSoi => Sys2Proof.Machine.execMarkerSoi s
  | .markerApp0 => Sys2Proof.Machine.execMarkerApp0 s
  | .markerDqt => Sys2Proof.Machine.execMarkerDqt s
  | .markerSof0 => Sys2Proof.Machine.execMarkerSof0 s
  | .markerDht => Sys2Proof.Machine.execMarkerDht s
  | .markerSos => Sys2Proof.Machine.execMarkerSos s
  | .markerEoi => Sys2Proof.Machine.execMarkerEoi s
  | .stuff => Sys2Proof.Machine.execStuff s
  | .dcCat0 => Sys2Proof.Machine.execDcCat0 s
  | .dcCat1 mag => Sys2Proof.Machine.execDcCat1 mag s
  | .dcCat2 mag => Sys2Proof.Machine.execDcCat2 mag s
  | .dcCat3 mag => Sys2Proof.Machine.execDcCat3 mag s
  | .dcCat4 mag => Sys2Proof.Machine.execDcCat4 mag s
  | .dcCat5 mag => Sys2Proof.Machine.execDcCat5 mag s
  | .dcCat6 mag => Sys2Proof.Machine.execDcCat6 mag s
  | .dcCat7 mag => Sys2Proof.Machine.execDcCat7 mag s
  | .dcCat8 mag => Sys2Proof.Machine.execDcCat8 mag s
  | .dcCat9 mag => Sys2Proof.Machine.execDcCat9 mag s
  | .dcCat10 mag => Sys2Proof.Machine.execDcCat10 mag s
  | .dcCat11 mag => Sys2Proof.Machine.execDcCat11 mag s
  | .acEob => Sys2Proof.Machine.execAcEob s
  | .acR0S1 mag => Sys2Proof.Machine.execAcR0S1 mag s
  | .acR0S2 mag => Sys2Proof.Machine.execAcR0S2 mag s
  | .acR0S3 mag => Sys2Proof.Machine.execAcR0S3 mag s
  | .acR0S4 mag => Sys2Proof.Machine.execAcR0S4 mag s
  | .acR0S5 mag => Sys2Proof.Machine.execAcR0S5 mag s
  | .acR0S6 mag => Sys2Proof.Machine.execAcR0S6 mag s
  | .acR0S7 mag => Sys2Proof.Machine.execAcR0S7 mag s
  | .acR0S8 mag => Sys2Proof.Machine.execAcR0S8 mag s
  | .acR0S9 mag => Sys2Proof.Machine.execAcR0S9 mag s
  | .acR0S10 mag => Sys2Proof.Machine.execAcR0S10 mag s
  | .acR1S1 mag => Sys2Proof.Machine.execAcR1S1 mag s
  | .acR1S2 mag => Sys2Proof.Machine.execAcR1S2 mag s
  | .acR1S3 mag => Sys2Proof.Machine.execAcR1S3 mag s
  | .acR1S4 mag => Sys2Proof.Machine.execAcR1S4 mag s
  | .acR1S5 mag => Sys2Proof.Machine.execAcR1S5 mag s
  | .acR1S6 mag => Sys2Proof.Machine.execAcR1S6 mag s
  | .acR1S7 mag => Sys2Proof.Machine.execAcR1S7 mag s
  | .acR1S8 mag => Sys2Proof.Machine.execAcR1S8 mag s
  | .acR1S9 mag => Sys2Proof.Machine.execAcR1S9 mag s
  | .acR1S10 mag => Sys2Proof.Machine.execAcR1S10 mag s
  | .acR2S1 mag => Sys2Proof.Machine.execAcR2S1 mag s
  | .acR2S2 mag => Sys2Proof.Machine.execAcR2S2 mag s
  | .acR2S3 mag => Sys2Proof.Machine.execAcR2S3 mag s
  | .acR2S4 mag => Sys2Proof.Machine.execAcR2S4 mag s
  | .acR2S5 mag => Sys2Proof.Machine.execAcR2S5 mag s
  | .acR2S6 mag => Sys2Proof.Machine.execAcR2S6 mag s
  | .acR2S7 mag => Sys2Proof.Machine.execAcR2S7 mag s
  | .acR2S8 mag => Sys2Proof.Machine.execAcR2S8 mag s
  | .acR2S9 mag => Sys2Proof.Machine.execAcR2S9 mag s
  | .acR2S10 mag => Sys2Proof.Machine.execAcR2S10 mag s
  | .acR3S1 mag => Sys2Proof.Machine.execAcR3S1 mag s
  | .acR3S2 mag => Sys2Proof.Machine.execAcR3S2 mag s
  | .acR3S3 mag => Sys2Proof.Machine.execAcR3S3 mag s
  | .acR3S4 mag => Sys2Proof.Machine.execAcR3S4 mag s
  | .acR3S5 mag => Sys2Proof.Machine.execAcR3S5 mag s
  | .acR3S6 mag => Sys2Proof.Machine.execAcR3S6 mag s
  | .acR3S7 mag => Sys2Proof.Machine.execAcR3S7 mag s
  | .acR3S8 mag => Sys2Proof.Machine.execAcR3S8 mag s
  | .acR3S9 mag => Sys2Proof.Machine.execAcR3S9 mag s
  | .acR3S10 mag => Sys2Proof.Machine.execAcR3S10 mag s
  | .acR4S1 mag => Sys2Proof.Machine.execAcR4S1 mag s
  | .acR4S2 mag => Sys2Proof.Machine.execAcR4S2 mag s
  | .acR4S3 mag => Sys2Proof.Machine.execAcR4S3 mag s
  | .acR4S4 mag => Sys2Proof.Machine.execAcR4S4 mag s
  | .acR4S5 mag => Sys2Proof.Machine.execAcR4S5 mag s
  | .acR4S6 mag => Sys2Proof.Machine.execAcR4S6 mag s
  | .acR4S7 mag => Sys2Proof.Machine.execAcR4S7 mag s
  | .acR4S8 mag => Sys2Proof.Machine.execAcR4S8 mag s
  | .acR4S9 mag => Sys2Proof.Machine.execAcR4S9 mag s
  | .acR4S10 mag => Sys2Proof.Machine.execAcR4S10 mag s
  | .acR5S1 mag => Sys2Proof.Machine.execAcR5S1 mag s
  | .acR5S2 mag => Sys2Proof.Machine.execAcR5S2 mag s
  | .acR5S3 mag => Sys2Proof.Machine.execAcR5S3 mag s
  | .acR5S4 mag => Sys2Proof.Machine.execAcR5S4 mag s
  | .acR5S5 mag => Sys2Proof.Machine.execAcR5S5 mag s
  | .acR5S6 mag => Sys2Proof.Machine.execAcR5S6 mag s
  | .acR5S7 mag => Sys2Proof.Machine.execAcR5S7 mag s
  | .acR5S8 mag => Sys2Proof.Machine.execAcR5S8 mag s
  | .acR5S9 mag => Sys2Proof.Machine.execAcR5S9 mag s
  | .acR5S10 mag => Sys2Proof.Machine.execAcR5S10 mag s
  | .acR6S1 mag => Sys2Proof.Machine.execAcR6S1 mag s
  | .acR6S2 mag => Sys2Proof.Machine.execAcR6S2 mag s
  | .acR6S3 mag => Sys2Proof.Machine.execAcR6S3 mag s
  | .acR6S4 mag => Sys2Proof.Machine.execAcR6S4 mag s
  | .acR6S5 mag => Sys2Proof.Machine.execAcR6S5 mag s
  | .acR6S6 mag => Sys2Proof.Machine.execAcR6S6 mag s
  | .acR6S7 mag => Sys2Proof.Machine.execAcR6S7 mag s
  | .acR6S8 mag => Sys2Proof.Machine.execAcR6S8 mag s
  | .acR6S9 mag => Sys2Proof.Machine.execAcR6S9 mag s
  | .acR6S10 mag => Sys2Proof.Machine.execAcR6S10 mag s
  | .acR7S1 mag => Sys2Proof.Machine.execAcR7S1 mag s
  | .acR7S2 mag => Sys2Proof.Machine.execAcR7S2 mag s
  | .acR7S3 mag => Sys2Proof.Machine.execAcR7S3 mag s
  | .acR7S4 mag => Sys2Proof.Machine.execAcR7S4 mag s
  | .acR7S5 mag => Sys2Proof.Machine.execAcR7S5 mag s
  | .acR7S6 mag => Sys2Proof.Machine.execAcR7S6 mag s
  | .acR7S7 mag => Sys2Proof.Machine.execAcR7S7 mag s
  | .acR7S8 mag => Sys2Proof.Machine.execAcR7S8 mag s
  | .acR7S9 mag => Sys2Proof.Machine.execAcR7S9 mag s
  | .acR7S10 mag => Sys2Proof.Machine.execAcR7S10 mag s
  | .acR8S1 mag => Sys2Proof.Machine.execAcR8S1 mag s
  | .acR8S2 mag => Sys2Proof.Machine.execAcR8S2 mag s
  | .acR8S3 mag => Sys2Proof.Machine.execAcR8S3 mag s
  | .acR8S4 mag => Sys2Proof.Machine.execAcR8S4 mag s
  | .acR8S5 mag => Sys2Proof.Machine.execAcR8S5 mag s
  | .acR8S6 mag => Sys2Proof.Machine.execAcR8S6 mag s
  | .acR8S7 mag => Sys2Proof.Machine.execAcR8S7 mag s
  | .acR8S8 mag => Sys2Proof.Machine.execAcR8S8 mag s
  | .acR8S9 mag => Sys2Proof.Machine.execAcR8S9 mag s
  | .acR8S10 mag => Sys2Proof.Machine.execAcR8S10 mag s
  | .acR9S1 mag => Sys2Proof.Machine.execAcR9S1 mag s
  | .acR9S2 mag => Sys2Proof.Machine.execAcR9S2 mag s
  | .acR9S3 mag => Sys2Proof.Machine.execAcR9S3 mag s
  | .acR9S4 mag => Sys2Proof.Machine.execAcR9S4 mag s
  | .acR9S5 mag => Sys2Proof.Machine.execAcR9S5 mag s
  | .acR9S6 mag => Sys2Proof.Machine.execAcR9S6 mag s
  | .acR9S7 mag => Sys2Proof.Machine.execAcR9S7 mag s
  | .acR9S8 mag => Sys2Proof.Machine.execAcR9S8 mag s
  | .acR9S9 mag => Sys2Proof.Machine.execAcR9S9 mag s
  | .acR9S10 mag => Sys2Proof.Machine.execAcR9S10 mag s
  | .acR10S1 mag => Sys2Proof.Machine.execAcR10S1 mag s
  | .acR10S2 mag => Sys2Proof.Machine.execAcR10S2 mag s
  | .acR10S3 mag => Sys2Proof.Machine.execAcR10S3 mag s
  | .acR10S4 mag => Sys2Proof.Machine.execAcR10S4 mag s
  | .acR10S5 mag => Sys2Proof.Machine.execAcR10S5 mag s
  | .acR10S6 mag => Sys2Proof.Machine.execAcR10S6 mag s
  | .acR10S7 mag => Sys2Proof.Machine.execAcR10S7 mag s
  | .acR10S8 mag => Sys2Proof.Machine.execAcR10S8 mag s
  | .acR10S9 mag => Sys2Proof.Machine.execAcR10S9 mag s
  | .acR10S10 mag => Sys2Proof.Machine.execAcR10S10 mag s
  | .acR11S1 mag => Sys2Proof.Machine.execAcR11S1 mag s
  | .acR11S2 mag => Sys2Proof.Machine.execAcR11S2 mag s
  | .acR11S3 mag => Sys2Proof.Machine.execAcR11S3 mag s
  | .acR11S4 mag => Sys2Proof.Machine.execAcR11S4 mag s
  | .acR11S5 mag => Sys2Proof.Machine.execAcR11S5 mag s
  | .acR11S6 mag => Sys2Proof.Machine.execAcR11S6 mag s
  | .acR11S7 mag => Sys2Proof.Machine.execAcR11S7 mag s
  | .acR11S8 mag => Sys2Proof.Machine.execAcR11S8 mag s
  | .acR11S9 mag => Sys2Proof.Machine.execAcR11S9 mag s
  | .acR11S10 mag => Sys2Proof.Machine.execAcR11S10 mag s
  | .acR12S1 mag => Sys2Proof.Machine.execAcR12S1 mag s
  | .acR12S2 mag => Sys2Proof.Machine.execAcR12S2 mag s
  | .acR12S3 mag => Sys2Proof.Machine.execAcR12S3 mag s
  | .acR12S4 mag => Sys2Proof.Machine.execAcR12S4 mag s
  | .acR12S5 mag => Sys2Proof.Machine.execAcR12S5 mag s
  | .acR12S6 mag => Sys2Proof.Machine.execAcR12S6 mag s
  | .acR12S7 mag => Sys2Proof.Machine.execAcR12S7 mag s
  | .acR12S8 mag => Sys2Proof.Machine.execAcR12S8 mag s
  | .acR12S9 mag => Sys2Proof.Machine.execAcR12S9 mag s
  | .acR12S10 mag => Sys2Proof.Machine.execAcR12S10 mag s
  | .acR13S1 mag => Sys2Proof.Machine.execAcR13S1 mag s
  | .acR13S2 mag => Sys2Proof.Machine.execAcR13S2 mag s
  | .acR13S3 mag => Sys2Proof.Machine.execAcR13S3 mag s
  | .acR13S4 mag => Sys2Proof.Machine.execAcR13S4 mag s
  | .acR13S5 mag => Sys2Proof.Machine.execAcR13S5 mag s
  | .acR13S6 mag => Sys2Proof.Machine.execAcR13S6 mag s
  | .acR13S7 mag => Sys2Proof.Machine.execAcR13S7 mag s
  | .acR13S8 mag => Sys2Proof.Machine.execAcR13S8 mag s
  | .acR13S9 mag => Sys2Proof.Machine.execAcR13S9 mag s
  | .acR13S10 mag => Sys2Proof.Machine.execAcR13S10 mag s
  | .acR14S1 mag => Sys2Proof.Machine.execAcR14S1 mag s
  | .acR14S2 mag => Sys2Proof.Machine.execAcR14S2 mag s
  | .acR14S3 mag => Sys2Proof.Machine.execAcR14S3 mag s
  | .acR14S4 mag => Sys2Proof.Machine.execAcR14S4 mag s
  | .acR14S5 mag => Sys2Proof.Machine.execAcR14S5 mag s
  | .acR14S6 mag => Sys2Proof.Machine.execAcR14S6 mag s
  | .acR14S7 mag => Sys2Proof.Machine.execAcR14S7 mag s
  | .acR14S8 mag => Sys2Proof.Machine.execAcR14S8 mag s
  | .acR14S9 mag => Sys2Proof.Machine.execAcR14S9 mag s
  | .acR14S10 mag => Sys2Proof.Machine.execAcR14S10 mag s
  | .acZrl => Sys2Proof.Machine.execAcZrl s
  | .acR15S1 mag => Sys2Proof.Machine.execAcR15S1 mag s
  | .acR15S2 mag => Sys2Proof.Machine.execAcR15S2 mag s
  | .acR15S3 mag => Sys2Proof.Machine.execAcR15S3 mag s
  | .acR15S4 mag => Sys2Proof.Machine.execAcR15S4 mag s
  | .acR15S5 mag => Sys2Proof.Machine.execAcR15S5 mag s
  | .acR15S6 mag => Sys2Proof.Machine.execAcR15S6 mag s
  | .acR15S7 mag => Sys2Proof.Machine.execAcR15S7 mag s
  | .acR15S8 mag => Sys2Proof.Machine.execAcR15S8 mag s
  | .acR15S9 mag => Sys2Proof.Machine.execAcR15S9 mag s
  | .acR15S10 mag => Sys2Proof.Machine.execAcR15S10 mag s

end Sys2Proof.Machine
end

