-- ==== Sys2Proof/Machine/HostPort.lean ====
section
/-! DEFINITION. The host's accesses to REG, IMG and OUT (10_state.md section 2, 20_memory.md), and the host program
notation (R133). -/

namespace Sys2Proof.Machine

/-! ## REG -/

/-- The host-visible output length: OUTLEN while DONE, else 0 (R39). -/
def visibleOutlen (s : State) : Nat := if s.status = .done then s.outlen else 0

/-- A REG read: reserved bits and reserved offsets read as 0, CTRL reads as 0 (R32 to R39, R81). -/
def regValue (s : State) (offset : BitVec 8) : BitVec 32 :=
  match offset.toNat with
  | 0x04 => (statusBits s.status).setWidth 32
  | 0x08 => s.width.setWidth 32
  | 0x0C => s.height.setWidth 32
  | 0x10 => s.quality.setWidth 32
  | 0x14 => (errBits s.errCode).setWidth 32
  | 0x18 => s.errInfo
  | 0x1C => BitVec.ofNat 32 (visibleOutlen s)
  | 0x20 => BitVec.ofNat 32 (visibleOutlen s / 2 ^ 32)
  | _ => 0

/-- A REG write that is not the ENCODE command: the parameters take bits [15:0] while not BUSY; everything else is
ignored (R35, R36, R97, R130). -/
def regStore (s : State) (offset : BitVec 8) (data : BitVec 32) : State :=
  if s.busy then s
  else
    match offset.toNat with
    | 0x08 => { s with width := data.setWidth 16 }
    | 0x0C => { s with height := data.setWidth 16 }
    | 0x10 => { s with quality := data.setWidth 16 }
    | _ => s

/-- The form of a REG access: whole words at offsets that are multiples of 4; a model refuses any other (R81, U8). -/
def regForm (offset : BitVec 8) (width : AccessWidth) : Option Refusal :=
  if width ≠ .word then some .regNarrow else if offset.toNat % 4 ≠ 0 then some .regMisaligned else none

/-! ## IMG and OUT -/

/-- A host write of one IMG byte. While BUSY it breaks the host's duty (R96, R97): the byte it replaces is kept, so that
a sample read of this encode may see either (log 10). -/
def imgStore (s : State) (addr : Nat) (byte : Byte) : State :=
  let old := s.img.read Config.imgPowerOn addr
  let s' := { s with img := s.img.write addr byte }
  if s.busy then { s' with torn := (addr, old) :: s.torn, draws := s.draws + 1 } else s'

/-- A byte of OUT. -/
def outByte (s : State) (addr : Nat) : Byte := s.out.read Config.outPowerOn addr

/-- OUT[0..OUTLEN-1]. -/
def outBytes (s : State) : List Byte := (List.range s.outlen).map (outByte s)

/-- The hardware reset input (R380): the state of R59; IMG, the parameter OUT_CAP and the host's own part stay (log 13). -/
def State.hardwareReset (s : State) : State :=
  { State.reset with
    outCap := s.outCap, img := s.img, draws := s.draws, inputs := s.inputs, rdata := s.rdata, rdout := s.rdout }

/-- One access of the host. -/
def hostAccess (access : HostAccess) (s : State) : Result :=
  match access with
  | .regRead offset width =>
    match regForm offset width with
    | some r => .refused r
    | none => .next { s with rdata := regValue s offset }
  | .regWrite offset width data =>
    match regForm offset width with
    | some r => .refused r
    | none =>
      match decode (.host offset data) with
      | .ok i => exec i s
      | .error _ => .next (regStore s offset data)
  | .imgRead addr =>
    if addr.toNat < imgLimit then .next { s with rdata := (s.img.read Config.imgPowerOn addr.toNat).setWidth 32 }
    else .refused .imgNoSuchAddress
  | .imgWrite addr byte => if addr.toNat < imgLimit then .next (imgStore s addr.toNat byte) else .refused .imgNoSuchAddress
  | .outRead addr =>
    if s.status ≠ .done then .refused .outNotReadable
    else if s.outlen ≤ addr then .refused .outBeyondLength
    else .next { s with rdata := (outByte s addr).setWidth 32 }
  | .rdOut => if s.status ≠ .done then .refused .outNotReadable else .next { s with rdout := outBytes s }
  | .collect =>
    .next { s with
      inputs :=
        (if s.status = .done then [.host .rdOut]
         else [.host (.regRead 0x14 .word), .host (.regRead 0x18 .word)]) ++ s.inputs }
  | .reset => .next s.hardwareReset

/-! ## Host programs (R133) -/

/-- `IMG`: fill IMG from address `addr` on. -/
def fillImage (addr : Nat) : List Byte → List Input
  | [] => []
  | byte :: bytes => .host (.imgWrite (BitVec.ofNat 32 addr) byte) :: fillImage (addr + 1) bytes

/-- `WR`. -/
def hostWrite (offset : BitVec 8) (data : BitVec 32) : Input := .host (.regWrite offset .word data)

/-- The pseudo-instruction `ENCODE <image>, <quality>` (R133). -/
def encodeProgram (image : List Byte) (width height quality : BitVec 16) : List Input :=
  fillImage 0 image ++
    [hostWrite 0x08 (width.setWidth 32), hostWrite 0x0C (height.setWidth 32), hostWrite 0x10 (quality.setWidth 32),
     hostWrite 0x00 1, .wait, .host (.regRead 0x04 .word), .host .collect]

end Sys2Proof.Machine
end

