-- ==== Sys2Proof/Machine/Fetch.lean ====
section
/-! DEFINITION. What runs next: the operation that PHASE names (R312), unless an entry of `inputs` comes first (log 1). -/

namespace Sys2Proof.Machine

/-- The sequencer's turn: while BUSY, the operation that PHASE names (R312); otherwise nothing changes (R315). -/
def sequencerTurn (s : State) : Result :=
  if s.busy then
    match decode (.uop (phaseCode s.phase)) with
    | .ok i => exec i s
    | .error _ => .next s
  else .next s

/-- One poll of WAIT (R133): STATUS is read; while BUSY the sequencer then has its turn and the host polls again (log 25). -/
def pollStatus (rest : List Input) (s : State) : Result :=
  let s := { s with rdata := regValue s 0x04 }
  if s.busy then sequencerTurn s else .next (s.withInputs rest)

/-- One step: the first entry of `inputs`, or else the sequencer's turn. -/
def runNext (s : State) : Result :=
  match s.inputs with
  | [] => sequencerTurn s
  | .seq :: rest => sequencerTurn (s.withInputs rest)
  | .host access :: rest => hostAccess access (s.withInputs rest)
  | .wait :: rest => pollStatus rest s
  | .issue op :: rest => exec op (s.withInputs rest)

/-- Place a code where the next step takes it from: a REG write as the host's next access, a PHASE code in PHASE with the
STATUS that goes with it, the operation of any other code at the issue port, since the block never decodes those forms (R110,
R135). A code that is no operation places nothing (log 3). -/
def placeCode (code : Code) (s : State) : State :=
  match code with
  | .host offset data => s.withInputs (.host (.regWrite offset .word data) :: s.inputs)
  | .uop c =>
    match phaseOfCode c with
    | some p => { s with phase := p, status := statusOfPhase p, inputs := .seq :: s.inputs }
    | none => s
  | .sub c =>
    match decode (.sub c) with
    | .ok op => s.withInputs (.issue op :: s.inputs)
    | .error _ => s

end Sys2Proof.Machine
end

