-- ==== Sys2Proof/Machine/Step.lean ====
section
/-! DEFINITION. One step of the machine, and the placing of an opcode-table word where the next step takes it from. -/

namespace Sys2Proof.Machine

/-- One step: three outcomes, next, fault, refusal. -/
def step (s : State) : Host.Outcome State Fault Refusal := runNext s

/-- `s` with the operation of a flat opcode-table word placed where `step` takes its next operation from (log 3, log 4). -/
def State.withFetchWord (s : State) (nbits w : Nat) : State := placeCode (tableCode nbits w) s

end Sys2Proof.Machine
end

