-- ==== Sys2Proof/Safety.lean ====
section
/-! DEFINITION. What holds in every state a hardware run reaches: control and memory (`Inv`), the ranges of the values
(`ValueInv`), and the shape of the emitted stream (`StreamInv`). A hardware run is one whose inputs come from the host; the
model's issue port (log 2) is not part of the hardware. -/

namespace Sys2Proof.Machine

/-- An input that hardware has: anything but the issue port. -/
def Input.fromHost : Input → Bool
  | .issue _ => false
  | _ => true

/-- The phases before the first block, in which the cursor stands at the origin (R60, R312). -/
def headPhases : List Phase :=
  [.check, .qtb, .hdrSoi, .hdrApp0, .hdrDqt, .hdrSof0, .hdrDhtDc, .hdrDhtAc, .hdrSos]

/-- The phases of the block loop (R312). -/
def blockPhases : List Phase := [.blkFetch, .fdct, .quant, .zigzag, .entDc, .entAc, .entEob, .blkNext]

/-- The phases after the block loop (R312). -/
def tailPhases : List Phase := [.bwFinal, .hdrEoi]

/-- The phases a run reaches only past SEQ.CHECK (R61). -/
def checkedPhases : List Phase := headPhases.drop 1 ++ blockPhases ++ tailPhases

/-- The phases a run reaches only past QTB.BUILD (R61). -/
def tablePhases : List Phase := headPhases.drop 2 ++ blockPhases ++ tailPhases

/-- Control, cursor, accumulator and memories. -/
structure Inv (s : State) : Prop where
  /-- the inputs are a host's -/
  fromHost : s.inputs.all Input.fromHost = true
  /-- STATUS goes with PHASE (R34) -/
  coherent : s.status = statusOfPhase s.phase
  /-- ERRCODE is NONE exactly when STATUS is not ERROR (R37, R97, R348) -/
  errors : s.errCode = .none ↔ s.status ≠ .error
  /-- ERRINFO is 0 when ERRCODE is NONE (R38) -/
  noInfo : s.errCode = .none → s.errInfo = 0
  /-- at most 7 bits are buffered, and no more (R51, R260) -/
  bits : s.accn ≤ 7 ∧ s.acc < 2 ^ s.accn
  /-- IMG is in canonical form -/
  imgForm : s.img.wf = true
  /-- OUT is in canonical form -/
  outForm : s.out.wf = true
  /-- OUTLEN never passes OUT_CAP (R10, R84) -/
  capacity : ∀ cap, s.outCap = some cap → s.outlen ≤ cap
  /-- block anchors are multiples of 8 (R42, R91) -/
  aligned : s.blkX.toNat % 8 = 0 ∧ s.blkY.toNat % 8 = 0
  /-- the dimensions are legal past SEQ.CHECK (R61) -/
  dimensions : s.phase ∈ checkedPhases → legalDimension s.width = true ∧ legalDimension s.height = true
  /-- the cursor stands at the origin until the first block (R60) -/
  origin : s.phase ∈ headPhases → s.blkX = 0 ∧ s.blkY = 0
  /-- the cursor is inside the image in the block loop (R42, R184) -/
  inside : s.phase ∈ blockPhases → s.blkX < s.width ∧ s.blkY < s.height
  /-- past QTB.BUILD the quality is positive and QT is its table (R44, R61) -/
  table : s.phase ∈ tablePhases → 0 < s.quality.toInt ∧ s.qt = qtTable s.quality.toInt

/-- The ranges of the values, and what the working buffers hold between the operation that writes them and the one that
reads them (R43, R48 to R50). -/
structure ValueInv (s : State) : Prop where
  /-- PRED (R49) -/
  predRange : -1024 ≤ s.pred ∧ s.pred ≤ 1016
  /-- NZ (R50, R238) -/
  nzRange : s.nz ≤ 62
  /-- COEF is the transform of SAMP until QUANT has read it (R43, R190) -/
  coefHeld : s.phase = .quant ∨ s.phase = .zigzag → s.coef = dctBlock s.samp
  /-- QUO is COEF divided by a table without zeros until ZIGZAG has read it (R43, R211) -/
  quoHeld : s.phase = .zigzag → zeroEntry s.qt = none ∧ s.quo = quotients s
  /-- ZZ and LEN until the entropy coder has read them (R48, R217) -/
  zzHeld : s.phase = .entDc ∨ s.phase = .entAc ∨ s.phase = .entEob →
    (-1024 ≤ s.zz[0] ∧ s.zz[0] ≤ 1016) ∧ (∀ k : Fin 64, 1 ≤ k.val → s.zz[k].natAbs ≤ 1020) ∧ s.len = countNonzero s.zz

/-- Where OUTLEN stands before each operation of the header, and before the first block (R290). -/
def headOffset : Phase → Option Nat
  | .check => some 0
  | .qtb => some 0
  | .hdrSoi => some 0
  | .hdrApp0 => some 2
  | .hdrDqt => some 20
  | .hdrSof0 => some 89
  | .hdrDhtDc => some 102
  | .hdrDhtAc => some 135
  | .hdrSos => some 318
  | _ => none

/-- Between two offsets every 0xFF of OUT is followed by 0x00, inside the same span (R267). -/
def Stuffed (s : State) (lo hi : Nat) : Prop :=
  ∀ a, lo ≤ a → a < hi → outByte s a = 0xFF#8 → a + 1 < hi ∧ outByte s (a + 1) = 0x00#8

/-- The first two bytes of OUT are the SOI marker (R282). -/
def startsWithSoi (s : State) : Prop := outByte s 0 = 0xFF#8 ∧ outByte s 1 = 0xD8#8

/-- The shape of the emitted stream (R267, R282, R289, R290). -/
structure StreamInv (s : State) : Prop where
  /-- each header operation starts at its offset -/
  offsets : ∀ n, headOffset s.phase = some n → s.outlen = n
  /-- past HDR.SOI the stream begins with SOI -/
  soi : s.phase ∈ (headPhases.drop 3 ++ blockPhases ++ tailPhases) ∨ s.phase = .done → startsWithSoi s
  /-- from the first block on, what follows the 328 header bytes is stuffed -/
  segment : s.phase ∈ (blockPhases ++ tailPhases) → 328 ≤ s.outlen ∧ Stuffed s 328 s.outlen
  /-- at DONE the stuffed segment is followed by EOI -/
  finished : s.phase = .done →
    330 ≤ s.outlen ∧ Stuffed s 328 (s.outlen - 2) ∧
      outByte s (s.outlen - 2) = 0xFF#8 ∧ outByte s (s.outlen - 1) = 0xD9#8

end Sys2Proof.Machine
end

