-- ==== Sys2Proof/Certificates/Slice0/Obligations.lean ====
section
/-! DEFINITION. The statements for the provers. The helpers in `Sys2Proof.Spec` say in the spec's terms what the model's
functions must compute: rationals and reals, bit strings, byte lists. -/

namespace Sys2Proof.Spec

open Sys2Proof.Machine

/-! ## Numbers -/

/-- `trunc` on the rationals (R14). -/
def truncRat (x : ℚ) : ℤ := if 0 ≤ x then ⌊x⌋ else -⌊-x⌋

/-- `trunc` on the reals (R14). -/
noncomputable def truncReal (x : ℝ) : ℤ := if 0 ≤ x then ⌊x⌋ else -⌊-x⌋

/-- The scale factor of QTB.BUILD (R163). -/
def scale (q : ℤ) : ℚ := if q < 50 then 50 / q else 2 - q / 50

/-- The value of a combination of cosines (R198). -/
noncomputable def cosValue (a : Cos8) : ℝ :=
  a.c0 + a.c1 * Real.cos (Real.pi / 16) + a.c2 * Real.cos (2 * Real.pi / 16) + a.c3 * Real.cos (3 * Real.pi / 16)
    + a.c4 * Real.cos (4 * Real.pi / 16) + a.c5 * Real.cos (5 * Real.pi / 16) + a.c6 * Real.cos (6 * Real.pi / 16)
    + a.c7 * Real.cos (7 * Real.pi / 16)

/-- The real number an exact real stands for. -/
noncomputable def value (x : ExactReal) : ℝ := cosValue x.num / x.den

/-- `C(k)` (R191). -/
noncomputable def normC (k : Fin 8) : ℝ := if k = 0 then 1 / Real.sqrt 2 else 1

/-- DCT_REF, the reference double sum (R191). -/
noncomputable def refDct (samp : Vector Byte 64) (u v : Fin 8) : ℝ :=
  1 / 4 * normC u * normC v *
    ∑ y : Fin 8, ∑ x : Fin 8, ((samp[8 * y.val + x.val].toNat : ℝ) - 128)
      * Real.cos ((2 * x.val + 1) * u.val * Real.pi / 16) * Real.cos ((2 * y.val + 1) * v.val * Real.pi / 16)

/-- The sum of the 64 samples. -/
def sampleSum (samp : Vector Byte 64) : ℤ := ∑ i : Fin 64, (samp[i].toNat : ℤ)

/-! ## Bits and bytes -/

/-- The buffered bits, oldest first (R51). -/
def pendingBits (s : State) : List Bool := natBits s.accn s.acc

/-- The full bytes of a bit string, eight bits at a time, most significant first (R88, R262). -/
def packBytes : List Bool → List Byte
  | b7 :: b6 :: b5 :: b4 :: b3 :: b2 :: b1 :: b0 :: rest =>
    BitVec.ofNat 8 (bitsNat [b7, b6, b5, b4, b3, b2, b1, b0]) :: packBytes rest
  | _ => []

/-- The bits that do not fill a byte. -/
def leftBits (bits : List Bool) : List Bool := bits.drop (8 * (bits.length / 8))

/-- Insert 0x00 after each 0xFF (R128). -/
def stuffed (bytes : List Byte) : List Byte := bytes.flatMap fun b => if b = 0xFF#8 then [0xFF#8, 0x00#8] else [b]

/-- The bytes that go out when `bits` join the buffered bits (R262). -/
def bytesOut (s : State) (bits : List Bool) : List Byte := stuffed (packBytes (pendingBits s ++ bits))

/-- The magnitude field of a nonzero v (R126). -/
def magBits (v : ℤ) : List Bool :=
  natBits (bitlen v.natAbs) (if 0 < v then v else v + 2 ^ bitlen v.natAbs - 1).toNat

/-- The bits of a DC difference: category codeword, magnitude (R120, R232). -/
def dcBits (delta : ℤ) : List Bool := codewordBits Rom.dcHuff (bitlen delta.natAbs) ++ magBits delta

/-- The bits of a run of examined AC entries after `gap` zeros: for each nonzero entry, one ZRL per 16 zeros before it, the
codeword of the rest of the run and the category, the magnitude (R242). -/
def acBits : ℕ → List ℤ → List Bool
  | _, [] => []
  | gap, v :: rest =>
    if v = 0 then acBits (gap + 1) rest
    else
      (List.replicate (gap / 16) (codewordBits Rom.acHuff 0xF0)).flatten
        ++ codewordBits Rom.acHuff (gap % 16 * 16 + bitlen v.natAbs) ++ magBits v ++ acBits 0 rest

/-- The zeros after the last nonzero entry, after `gap` zeros. -/
def trailingZeros : ℕ → List ℤ → ℕ
  | gap, [] => gap
  | gap, v :: rest => trailingZeros (if v = 0 then gap + 1 else 0) rest

/-- The end-of-block bits (R240). -/
def eobBits (len : ℕ) : List Bool := if len < 64 then codewordBits Rom.acHuff 0x00 else []

/-- ZZ[1..LEN-1] (R237). -/
def examined (zz : Vector ℤ 64) (len : ℕ) : List ℤ := (zz.toList.drop 1).take (len - 1)

/-! ## What a statement says about OUT -/

/-- OUT has room for `n` more bytes (R84). -/
def Room (s : State) (n : ℕ) : Prop := ∀ cap, s.outCap = some cap → s.outlen + n ≤ cap

/-- OUTLEN has not passed OUT_CAP. -/
def WithinCap (s : State) : Prop := ∀ cap, s.outCap = some cap → s.outlen ≤ cap

/-- At most 7 bits are buffered, and no more (R260). -/
def BitsHeld (s : State) : Prop := s.accn ≤ 7 ∧ s.acc < 2 ^ s.accn

/-- OUT of `t` is OUT of `s` with `bytes` appended at OUTLEN, every other address reading as before (R84). -/
def Appended (s t : State) (bytes : List Byte) : Prop :=
  t.outlen = s.outlen + bytes.length ∧
    (∀ (j : ℕ) (h : j < bytes.length), outByte t (s.outlen + j) = bytes[j]) ∧
    ∀ a, a < s.outlen ∨ s.outlen + bytes.length ≤ a → outByte t a = outByte s a

/-- `s` after OUTPUT_OVERFLOW: the error entry, with OUT_CAP mod 2^32 recorded (R344, R348). -/
def overflowed (s : State) : State :=
  { s with errCode := .outputOverflow, errInfo := BitVec.ofNat 32 (s.outCap.getD 0), status := .error, phase := .error }

/-- With room the operation appends exactly `bytes` and makes the change `after`, and nothing else; without room it ends in
OUTPUT_OVERFLOW with nothing else changed (R266, R280). -/
def AppendsOrOverflows (s : State) (r : Result) (bytes : List Byte) (after : State → State) : Prop :=
  (Room s bytes.length →
    ∃ t, r = .next t ∧ t = after { s with out := t.out, outlen := t.outlen } ∧ Appended s t bytes) ∧
  (¬Room s bytes.length → r = .next (overflowed s))

/-- With room the operation joins exactly `bits` to the buffered bits, appends the full bytes stuffed, keeps the rest
buffered, makes the change `after`, and nothing else; without room it ends in OUTPUT_OVERFLOW (R261, R262). -/
def EmitsOrOverflows (s : State) (r : Result) (bits : List Bool) (after : State → State) : Prop :=
  (Room s (bytesOut s bits).length →
    ∃ t, r = .next t ∧
      t = after { s with out := t.out, outlen := t.outlen, acc := t.acc, accn := t.accn } ∧
      Appended s t (bytesOut s bits) ∧ pendingBits t = leftBits (pendingBits s ++ bits) ∧ BitsHeld t) ∧
  (¬Room s (bytesOut s bits).length → r = .next (overflowed s))

/-! ## The header -/

/-- A 16-bit field, big-endian (R16). -/
def field16 (v : BitVec 16) : List Byte := [BitVec.ofNat 8 (v.toNat / 256), BitVec.ofNat 8 (v.toNat % 256)]

/-- The seven header operations before the first block, the bytes each appends and the PHASE it leaves (R282 to R288). -/
def headerParts (s : State) : List (Instr × List Byte × Phase) :=
  [(.hdrSoi, [0xFF, 0xD8], .hdrApp0),
   (.hdrApp0,
     [0xFF, 0xE0, 0x00, 0x10, 0x4A, 0x46, 0x49, 0x46, 0x00, 0x01, 0x01, 0x00, 0x00, 0x01, 0x00, 0x01, 0x00, 0x00], .hdrDqt),
   (.hdrDqt, [0xFF, 0xDB, 0x00, 0x43, 0x00] ++ s.qt.toList, .hdrSof0),
   (.hdrSof0,
     [0xFF, 0xC0, 0x00, 0x0B, 0x08] ++ field16 s.height ++ field16 s.width ++ [0x01, 0x01, 0x11, 0x00], .hdrDhtDc),
   (.hdrDhtDc,
     [0xFF, 0xC4, 0x00, 0x1F, 0x00] ++ [0x00, 0x01, 0x05, 0x01, 0x01, 0x01, 0x01, 0x01, 0x01, 0x00, 0x00, 0x00, 0x00, 0x00,
       0x00, 0x00] ++ [0x00, 0x01, 0x02, 0x03, 0x04, 0x05, 0x06, 0x07, 0x08, 0x09, 0x0A, 0x0B], .hdrDhtAc),
   (.hdrDhtAc,
     [0xFF, 0xC4, 0x00, 0xB5, 0x10] ++ [0x00, 0x02, 0x01, 0x03, 0x03, 0x02, 0x04, 0x03, 0x05, 0x05, 0x04, 0x04, 0x00, 0x00,
       0x01, 0x7D] ++ Rom.acSyms.map (BitVec.ofNat 8), .hdrSos),
   (.hdrSos, [0xFF, 0xDA, 0x00, 0x08, 0x01, 0x01, 0x00, 0x00, 0x3F, 0x00], .blkFetch)]

/-- The 328 header bytes (R290). -/
def header328 (s : State) : List Byte := (headerParts s).flatMap fun p => p.2.1

/-! ## Control -/

/-- One row of the transition table: the operation, the PHASEs that may follow, the exceptions it may raise. -/
structure TableRow where
  operation : Option Instr
  next : List Phase
  raises : List ErrCode

/-- The transition table (R312). -/
def transition : Phase → TableRow
  | .idle => ⟨none, [.idle], []⟩
  | .check => ⟨some .seqCheck, [.qtb], [.invalidDimension]⟩
  | .qtb => ⟨some .qtbBuild, [.hdrSoi], [.invalidQuality]⟩
  | .hdrSoi => ⟨some .hdrSoi, [.hdrApp0], [.outputOverflow]⟩
  | .hdrApp0 => ⟨some .hdrApp0, [.hdrDqt], [.outputOverflow]⟩
  | .hdrDqt => ⟨some .hdrDqt, [.hdrSof0], [.outputOverflow]⟩
  | .hdrSof0 => ⟨some .hdrSof0, [.hdrDhtDc], [.outputOverflow]⟩
  | .hdrDhtDc => ⟨some .hdrDhtDc, [.hdrDhtAc], [.outputOverflow]⟩
  | .hdrDhtAc => ⟨some .hdrDhtAc, [.hdrSos], [.outputOverflow]⟩
  | .hdrSos => ⟨some .hdrSos, [.blkFetch], [.outputOverflow]⟩
  | .blkFetch => ⟨some .blkFetch, [.fdct], []⟩
  | .fdct => ⟨some .fdct, [.quant], []⟩
  | .quant => ⟨some .quant, [.zigzag], [.degenerateQuantEntry]⟩
  | .zigzag => ⟨some .zigzag, [.entDc], []⟩
  | .entDc => ⟨some .entDc, [.entAc], [.outputOverflow]⟩
  | .entAc => ⟨some .entAc, [.entEob], [.outputOverflow]⟩
  | .entEob => ⟨some .entEob, [.blkNext], [.outputOverflow]⟩
  | .blkNext => ⟨some .blkNext, [.blkFetch, .bwFinal], []⟩
  | .bwFinal => ⟨some .bwFinalize, [.hdrEoi], []⟩
  | .hdrEoi => ⟨some .hdrEoi, [.done], [.outputOverflow]⟩
  | .done => ⟨none, [.done], []⟩
  | .error => ⟨none, [.error], []⟩

/-- BLK.NEXT executed n times. -/
def afterBlkNext : ℕ → State → Option State
  | 0, s => some s
  | n + 1, s =>
    match afterBlkNext n s with
    | some u =>
      match exec .blkNext u with
      | .next t => some t
      | _ => none
    | none => none

/-- `k` steps of the machine end in state `t`. -/
def Runs (k : ℕ) (s t : State) : Prop := core.run k s = .next t

/-- A quiescent state with no input waiting, in which ENCODE is accepted (R310). -/
def Ready (s : State) : Prop := s.inputs = [] ∧ s.busy = false

/-- `s` right after ENCODE (R310). -/
def Started (s u : State) : Prop := exec (.encode 0) s = .next u

/-- The number of blocks of the image (R180). -/
def blockCount (s : State) : ℕ := (s.width.toNat / 8) * (s.height.toNat / 8)

/-! ## The encode in closed form (R317) -/

/-- The samples of the n-th block, from IMG (R180, R181). -/
def blockSamples (s : State) (n : ℕ) : Vector Byte 64 :=
  tabulate fun i =>
    s.img.read Config.imgPowerOn
      ((8 * (n / (s.width.toNat / 8)) + i.val / 8) * s.width.toNat + (8 * (n % (s.width.toNat / 8)) + i.val % 8))

/-- The quantized entries of the n-th block in zigzag order: trunc(COEF / QT), both at the row-major index (R217). -/
noncomputable def blockEntries (s : State) (n : ℕ) : Vector ℤ 64 :=
  tabulate fun k =>
    let i := Rom.zigzag[k]
    truncReal (refDct (blockSamples s n) ⟨i.val % 8, by omega⟩ ⟨i.val / 8, by omega⟩
      / ((qtTable s.quality.toInt)[i].toNat : ℝ))

/-- The bits of one block, for the predictor before it (R242). -/
def blockBits (pred : ℤ) (zz : Vector ℤ 64) : List Bool :=
  let len := (countNonzero zz).val
  dcBits (zz[0] - pred) ++ acBits 0 (examined zz len) ++ eobBits len

/-- The bits of blocks n, n+1, ..., n+k-1, the predictor threading through (R317). -/
noncomputable def streamBits (s : State) (pred : ℤ) : ℕ → ℕ → List Bool
  | _, 0 => []
  | n, k + 1 => blockBits pred (blockEntries s n) ++ streamBits s (blockEntries s n)[0] (n + 1) k

/-- The bytes of a successful encode (R317). -/
noncomputable def encodeBytes (s : State) : List Byte :=
  header328 { s with qt := qtTable s.quality.toInt }
    ++ stuffed (packBytes (streamBits s 0 0 (blockCount s))) ++ [0xFF#8, 0xD9#8]

/-- Parameters with which an encode can succeed: legal dimensions (R311) and a quality whose table has no zero (R167). -/
def CanSucceed (s : State) : Prop :=
  legalDimension s.width = true ∧ legalDimension s.height = true ∧ 1 ≤ s.quality.toInt ∧ s.quality.toInt ≤ 97

/-- The capacity holds the result (R10). -/
def Fits (s : State) : Prop := ∀ cap, s.outCap = some cap → (encodeBytes s).length ≤ cap

end Sys2Proof.Spec

open Sys2Proof Sys2Proof.Machine Sys2Proof.Spec

/-! ## Encoding -/

/-- The decoder accepts exactly the encodings of well-formed operations, and each stands for one operation (30_encoding.md). -/
def Obligations.DecodeInvertsEncode : Prop :=
  ∀ (c : Code) (i : Instr), decode c = .ok i ↔ i.wellFormed = true ∧ encode i = c

/-- A coded item is read from the front of any bit string, whatever follows: the codewords are prefix-free and the category
gives the magnitude's length (R120, R135). -/
def Obligations.CodedItemsReadFromTheFront : Prop :=
  ∀ (i : Instr) (bits rest : List Bool),
    (encode i = .sub (.huffDc bits) → decodeDcItem (bits ++ rest) = .ok (i, rest)) ∧
    (encode i = .sub (.huffAc bits) → decodeAcItem (bits ++ rest) = .ok (i, rest))

/-- Words written out from the spec's encodings decode to the operations they stand for (R111, R112, R113, R122, R124, R126,
R128). -/
def Obligations.WrittenWordsDecode : Prop :=
  decode (.host 0x00 0x00000001) = .ok (.encode 0) ∧
  decode (.uop 0b00001) = .ok .seqCheck ∧ decode (.uop 0b01011) = .ok .fdct ∧ decode (.uop 0b10011) = .ok .hdrEoi ∧
  decode (.sub (.marker 0b1111111111000100)) = .ok .markerDht ∧
  decode (.sub (.stuff 0b1111111100000000)) = .ok .stuff ∧
  decode (.sub (.huffDc [true, false, false, false, true, false])) = .ok (.dcCat3 0b010) ∧
  decode (.sub (.huffAc [true, false, true, true, false, true, true, false])) = .ok (.acR0S4 0b0110) ∧
  decode (.sub (.huffAc [true, true, true, true, true, true, true, true, false, false, true])) = .ok .acZrl

/-! ## Steps -/

/-- A step runs the operation that the fetched code decodes to: the PHASE's when no input waits or the sequencer's turn
comes, the host's CTRL write, the issued operation; a WAIT also reads STATUS, and ends when BUSY = 0 (R312, R111, R133; the inputs
are the model's, logs 1, 2 and 25, and so is where a read's result stands, log 12). -/
def Obligations.StepRunsTheDecodedOperation : Prop :=
  ∀ (s : State) (rest : List Input),
    (∀ i, s.busy = true → decode (.uop (phaseCode s.phase)) = .ok i →
      (s.inputs = [] → step s = exec i s) ∧
      (s.inputs = .seq :: rest → step s = exec i { s with inputs := rest }) ∧
      (s.inputs = .wait :: rest → step s = exec i { s with rdata := 1 })) ∧
    (s.busy = false →
      (s.inputs = .seq :: rest → step s = .next { s with inputs := rest }) ∧
      (s.inputs = .wait :: rest → step s = .next { s with
        inputs := rest, rdata := match s.status with | .idle => 0 | .busy => 1 | .done => 2 | .error => 4 })) ∧
    (∀ i offset data, s.inputs = .host (.regWrite offset .word data) :: rest → decode (.host offset data) = .ok i →
      step s = exec i { s with inputs := rest }) ∧
    (∀ i, s.inputs = .issue i :: rest → step s = exec i { s with inputs := rest })

/-- A code placed for the next step runs as the operation it decodes to: at the state as it was, but for a PHASE code, which
stands in PHASE with STATUS BUSY; and `withFetchWord` places the code of a flat word (R110, R112; the placing is the model's,
logs 3 and 4). -/
def Obligations.PlacedCodesRunTheirOperation : Prop :=
  ∀ (s : State) (i : Instr),
    (∀ offset data, decode (.host offset data) = .ok i → step (placeCode (.host offset data) s) = exec i s) ∧
    (∀ c, decode (.sub c) = .ok i → step (placeCode (.sub c) s) = exec i s) ∧
    (∀ p, decode (.uop (phaseCode p)) = .ok i →
      step (placeCode (.uop (phaseCode p)) s) = exec i { s with phase := p, status := .busy }) ∧
    ∀ nbits w, s.withFetchWord nbits w = placeCode (tableCode nbits w) s

/-- In IDLE, DONE and ERROR, with no input waiting, a step changes nothing (R315). -/
def Obligations.QuiescentStepChangesNothing : Prop :=
  ∀ s : State, s.inputs = [] → (s.phase = .idle ∨ s.phase = .done ∨ s.phase = .error) → step s = .next s

/-- The transition table (R312): while BUSY a step runs the operation of PHASE, else it changes nothing; PHASE moves only along
the table and an operation raises only the exceptions the table gives it; BLK.NEXT goes to BW_FINAL exactly when no block
remains; ENCODE is the way out of the quiescent phases. -/
def Obligations.PhaseMovesAlongTheTable : Prop :=
  (∀ s : State, s.inputs = [] → s.status = statusOfPhase s.phase →
    (step s = match (transition s.phase).operation with
      | some i => exec i s
      | none => .next s) ∧
    ∀ t, step s = .next t →
      (t.phase ∈ (transition s.phase).next ∨ (t.phase = .error ∧ t.errCode ∈ (transition s.phase).raises)) ∧
      (s.phase = .blkNext → (t.phase = .bwFinal ↔ t.blkY = s.height))) ∧
  ∀ (s : State) (ignored : BitVec 31), s.status = statusOfPhase s.phase → (transition s.phase).operation = none →
    ∃ t, exec (.encode ignored) s = .next t ∧ t.phase = .check

/-! ## Reset, ENCODE, errors -/

/-- The reset values the spec gives, and that the block then waits (R59); the buffers' zeros are the model's choice, log 7, and
are not stated. -/
def Obligations.ResetValues : Prop :=
  let s := State.reset
  s.phase = .idle ∧ s.status = .idle ∧ s.width = 0 ∧ s.height = 0 ∧ s.quality = 0 ∧ s.errCode = .none ∧ s.errInfo = 0 ∧
    s.outlen = 0 ∧ regValue s 0x1C = 0 ∧ regValue s 0x20 = 0 ∧ s.blkX = 0 ∧ s.blkY = 0 ∧ s.pred = 0 ∧ s.acc = 0 ∧ s.accn = 0 ∧
    step s = .next s

/-- The reset input abandons whatever runs: the reset state, with IMG, the capacity and the host's own part kept (R380; what
is kept beside IMG is the model's choice, log 13). -/
def Obligations.ResetInputAbandonsTheEncode : Prop :=
  ∀ (s : State) (rest : List Input), s.inputs = .host .reset :: rest →
    ∃ t, step s = .next t ∧ t.phase = .idle ∧ t.status = .idle ∧ t.width = 0 ∧ t.height = 0 ∧ t.quality = 0 ∧
      t.errCode = .none ∧ t.errInfo = 0 ∧ t.outlen = 0 ∧ t.blkX = 0 ∧ t.blkY = 0 ∧ t.pred = 0 ∧ t.acc = 0 ∧ t.accn = 0 ∧
      t.img = s.img ∧ t.outCap = s.outCap ∧ t.inputs = rest

/-- ENCODE (R310): ignored while BUSY; otherwise exactly the per-encode state is set, whatever the ignored data bits. Of the
model's own record of torn samples (log 10) nothing is said. -/
def Obligations.EncodeSetsThePerEncodeState : Prop :=
  ∀ (ignored : BitVec 31) (s : State),
    (s.status = .busy → exec (.encode ignored) s = .next s) ∧
    (s.status ≠ .busy → ∃ t, exec (.encode ignored) s = .next t ∧ t = { s with
      status := .busy, errCode := .none, errInfo := 0, outlen := 0, pred := 0, acc := 0, accn := 0, blkX := 0, blkY := 0,
      phase := .check, torn := t.torn })

/-- SEQ.CHECK (R311): a dimension that is 0 or no multiple of 8 raises INVALID_DIMENSION with HEIGHT * 2^16 + WIDTH; otherwise
only PHASE moves. -/
def Obligations.SeqCheckTestsTheDimensions : Prop :=
  ∀ s : State,
    let w := s.width.toNat
    let h := s.height.toNat
    ((w = 0 ∨ h = 0 ∨ w % 8 ≠ 0 ∨ h % 8 ≠ 0) → exec .seqCheck s = .next { s with
      errCode := .invalidDimension, errInfo := BitVec.ofNat 32 (h * 2 ^ 16 + w), status := .error, phase := .error }) ∧
    (¬(w = 0 ∨ h = 0 ∨ w % 8 ≠ 0 ∨ h % 8 ≠ 0) → exec .seqCheck s = .next { s with phase := .qtb })

/-- Error entry (R348): an operation that ends in ERROR has recorded the code and the value of one of the four exceptions, set
STATUS and PHASE, and changed nothing else; the host then reads both halves of OUTLEN as 0. -/
def Obligations.ErrorEntryAbandonsTheOperation : Prop :=
  ∀ (i : Instr) (s t : State), s.status ≠ .error → exec i s = .next t → t.status = .error →
    t = { s with errCode := t.errCode, errInfo := t.errInfo, status := .error, phase := .error } ∧
    regValue t 0x1C = 0 ∧ regValue t 0x20 = 0 ∧
    ((i = .seqCheck ∧ t.errCode = .invalidDimension ∧
        t.errInfo = BitVec.ofNat 32 (s.height.toNat * 2 ^ 16 + s.width.toNat)) ∨
      (i = .qtbBuild ∧ t.errCode = .invalidQuality ∧ t.errInfo = BitVec.ofInt 32 s.quality.toInt) ∨
      (i = .quant ∧ t.errCode = .degenerateQuantEntry ∧
        ∃ k : Fin 64, t.errInfo = BitVec.ofNat 32 k.val ∧ s.qt[k] = 0 ∧ ∀ j : Fin 64, j < k → s.qt[j] ≠ 0) ∨
      (t.errCode = .outputOverflow ∧
        ∃ cap, s.outCap = some cap ∧ t.errInfo = BitVec.ofNat 32 (max cap s.outlen)))

/-! ## QTB -/

/-- QTB.BUILD (R160, R162, R163): a quality ≤ 0 raises INVALID_QUALITY with the value sign-extended; otherwise QT is the
clamped truncation of BASE[i] * scale + 1/2 in exact rationals, PHASE moves, and nothing else changes. -/
def Obligations.QtbBuildsTheExactTable : Prop :=
  ∀ s : State,
    (s.quality.toInt ≤ 0 → exec .qtbBuild s = .next { s with
      errCode := .invalidQuality, errInfo := BitVec.ofInt 32 s.quality.toInt, status := .error, phase := .error }) ∧
    (0 < s.quality.toInt → ∃ t, exec .qtbBuild s = .next t ∧ t = { s with qt := t.qt, phase := .hdrSoi } ∧
      ∀ i : Fin 64, (t.qt[i].toNat : ℤ) = max 0 (min 255 (truncRat ((Rom.base[i] : ℚ) * scale s.quality.toInt + 1 / 2))))

/-- The integer closed forms of the table (R165). -/
def Obligations.QuantTableClosedForms : Prop :=
  ∀ (s : State) (i : Fin 64), 0 < s.quality.toInt →
    let q := s.quality.toNat
    let b := Rom.base[i]
    ∃ t, exec .qtbBuild s = .next t ∧
      (q ≤ 49 → t.qt[i].toNat = min 255 ((100 * b + q) / (2 * q))) ∧
      (50 ≤ q → q ≤ 100 → t.qt[i].toNat = (b * (100 - q) + 25) / 50 ∧ t.qt[i].toNat ≤ 121) ∧
      (101 ≤ q → t.qt[i].toNat = 0)

/-- The table is a function of QUALITY alone, and no entry grows with the quality (R166). -/
def Obligations.QuantTableDependsOnQualityAndFalls : Prop :=
  ∀ s s' t t' : State, 0 < s.quality.toInt → exec .qtbBuild s = .next t → exec .qtbBuild s' = .next t' →
    (s.quality = s'.quality → t.qt = t'.qt) ∧
    (s.quality.toInt < s'.quality.toInt → ∀ i : Fin 64, t'.qt[i].toNat ≤ t.qt[i].toNat)

/-- Where the table has zeros (40_qtable_builder.md section 3), and what QUANT then does whatever the image: from quality 98 on
it raises DEGENERATE_QUANT_ENTRY, with index 1 at 98 and index 0 above. -/
def Obligations.HighQualityTablesHaveZeros : Prop :=
  ∀ s : State, 0 < s.quality.toInt → s.qt = qtTable s.quality.toInt →
    let q := s.quality.toNat
    (∀ i : Fin 64, s.qt[i] = 0 ↔ (Rom.base[i] : ℚ) * scale s.quality.toInt + 1 / 2 < 1) ∧
    (q ≤ 97 → ∀ i : Fin 64, s.qt[i] ≠ 0) ∧
    (q = 98 → ∀ i : Fin 64, s.qt[i] = 0 ↔ i = 1 ∨ i = 2 ∨ i = 4 ∨ i = 5) ∧
    (q = 99 → ∀ i : Fin 64, s.qt[i] = 0 ↔ Rom.base[i] ≤ 24) ∧
    (100 ≤ q → ∀ i : Fin 64, s.qt[i] = 0) ∧
    (98 ≤ q → exec .quant s = .next { s with
      errCode := .degenerateQuantEntry, errInfo := if q = 98 then 1 else 0, status := .error, phase := .error })

/-! ## Header, markers, OUT -/

/-- Each of HDR.SOI, HDR.APP0, HDR.DQT, HDR.SOF0, HDR.DHT_DC, HDR.DHT_AC, HDR.SOS appends exactly its bytes, unstuffed, moves
PHASE and changes nothing else; without room it ends in OUTPUT_OVERFLOW (R282 to R288). -/
def Obligations.HeaderOperationsAppendTheirBytes : Prop :=
  ∀ s : State, WithinCap s → ∀ part ∈ headerParts s,
    AppendsOrOverflows s (exec part.1 s) part.2.1 fun u => { u with phase := part.2.2 }

/-- The seven header operations run in order from OUTLEN = 0 append exactly the 328 header bytes (46_header_writer.md). -/
def Obligations.HeaderIs328Bytes : Prop :=
  ∀ s : State, s.inputs = [] → s.status = .busy → s.phase = .hdrSoi → s.outlen = 0 → Room s 328 →
    ∃ t, Runs 7 s t ∧ t = { s with out := t.out, outlen := 328, phase := .blkFetch } ∧ (header328 s).length = 328 ∧
      Appended s t (header328 s)

/-- HDR.EOI appends FF D9 and completes the encode, atomically with SEQ.DONE (R289, R314). -/
def Obligations.EoiCompletesTheEncode : Prop :=
  ∀ s : State, WithinCap s →
    (AppendsOrOverflows s (exec .hdrEoi s) [0xFF, 0xD9] fun u => { u with status := .done, phase := .done }) ∧
    exec .seqDone s = .next { s with status := .done, phase := .done }

/-- Each of the seven markers, and the stuffed data byte, is emitted by itself as its two bytes (R113, R128). -/
def Obligations.MarkersAndStuffedByteAreTwoBytes : Prop :=
  ∀ s : State, WithinCap s →
    AppendsOrOverflows s (exec .markerSoi s) [0xFF, 0xD8] id ∧ AppendsOrOverflows s (exec .markerApp0 s) [0xFF, 0xE0] id ∧
    AppendsOrOverflows s (exec .markerDqt s) [0xFF, 0xDB] id ∧ AppendsOrOverflows s (exec .markerSof0 s) [0xFF, 0xC0] id ∧
    AppendsOrOverflows s (exec .markerDht s) [0xFF, 0xC4] id ∧ AppendsOrOverflows s (exec .markerSos s) [0xFF, 0xDA] id ∧
    AppendsOrOverflows s (exec .markerEoi s) [0xFF, 0xD9] id ∧ AppendsOrOverflows s (exec .stuff s) [0xFF, 0x00] id

/-- OUT.APPEND (R266): with room it writes OUT[OUTLEN] and increases OUTLEN by 1; otherwise it raises OUTPUT_OVERFLOW with
OUTLEN mod 2^32. -/
def Obligations.OutAppendWritesAtOutlen : Prop :=
  ∀ (byte : Byte) (s : State),
    (Room s 1 → ∃ t, exec (.outAppend byte) s = .next t ∧ t = { s with out := t.out, outlen := s.outlen + 1 } ∧
      outByte t s.outlen = byte ∧ ∀ a, a ≠ s.outlen → outByte t a = outByte s a) ∧
    (¬Room s 1 → exec (.outAppend byte) s = .next { s with
      errCode := .outputOverflow, errInfo := BitVec.ofNat 32 s.outlen, status := .error, phase := .error })

/-- No operation but ENCODE shortens OUT or changes a byte below OUTLEN, and ENCODE changes no byte of OUT (R84). -/
def Obligations.EmittedBytesAreNeverRewritten : Prop :=
  ∀ (i : Instr) (s t : State), exec i s = .next t →
    (∀ ignored, i = .encode ignored → t.out = s.out) ∧
    ((∀ ignored, i ≠ .encode ignored) → s.outlen ≤ t.outlen ∧ ∀ a, a < s.outlen → outByte t a = outByte s a)

/-! ## Blocks -/

/-- BLK.FETCH (R182): inside the image, SAMP[8r + c] is the sample at (BX + c, BY + r), read at IMG address
(BY + r) * WIDTH + BX + c, PHASE moves, nothing else changes. A sample the host wrote during the encode is spoken of in
`TornSamplesAreSomeByteHeld`. -/
def Obligations.BlkFetchReadsTheBlock : Prop :=
  ∀ s : State, s.blkX < s.width → s.blkY < s.height →
    ∃ t, exec .blkFetch s = .next t ∧ t = { s with samp := t.samp, phase := .fdct } ∧
      ∀ r c : Fin 8,
        let addr := (s.blkY.toNat + r.val) * s.width.toNat + (s.blkX.toNat + c.val)
        tornAt s addr = [] → t.samp[8 * r.val + c.val] = s.img.read Config.imgPowerOn addr

/-- Where BLK.FETCH leaves the spec's own path: a sample the host wrote during the encode is one of the bytes it held (20_memory.md,
rule R97; log 10), and a cursor outside the image is the model-level fault (41_block_source.md, rule R184; log 15). -/
def Obligations.TornSamplesAreSomeByteHeld : Prop :=
  ∀ s : State,
    (∀ t, exec .blkFetch s = .next t → ∀ r c : Fin 8,
      let addr := (s.blkY.toNat + r.val) * s.width.toNat + (s.blkX.toNat + c.val)
      t.samp[8 * r.val + c.val] ∈ s.img.read Config.imgPowerOn addr :: tornAt s addr) ∧
    (¬(s.blkX < s.width ∧ s.blkY < s.height) → exec .blkFetch s = .fault .blockOutsideImage)

/-- BLK.NEXT (R183): the cursor moves right by 8, from the last column to the next block row; after the last block row PHASE
is BW_FINAL, else BLK_FETCH. Neither register overflows in a reachable state, so the statement is about those that do not. -/
def Obligations.BlkNextAdvancesTheCursor : Prop :=
  ∀ s : State, s.blkX.toNat + 8 < 2 ^ 16 → s.blkY.toNat + 8 < 2 ^ 16 →
    ∃ t, exec .blkNext s = .next t ∧ t = { s with blkX := t.blkX, blkY := t.blkY, phase := t.phase } ∧
      (s.blkX.toNat + 8 = s.width.toNat → t.blkX = 0 ∧ t.blkY.toNat = s.blkY.toNat + 8) ∧
      (s.blkX.toNat + 8 ≠ s.width.toNat → t.blkX.toNat = s.blkX.toNat + 8 ∧ t.blkY = s.blkY) ∧
      t.phase = if t.blkY = s.height then .bwFinal else .blkFetch

/-- The block sequence (41_block_source.md): from (0, 0) the n-th block stands at x = 8 * (n mod (WIDTH/8)),
y = 8 * (n / (WIDTH/8)), and after the last one the cursor is at (0, HEIGHT) with PHASE BW_FINAL. -/
def Obligations.BlocksComeInRasterOrder : Prop :=
  ∀ (s : State) (n : ℕ), legalDimension s.width = true → legalDimension s.height = true → s.blkX = 0 → s.blkY = 0 →
    s.phase = .blkFetch → n ≤ blockCount s →
    ∃ t, afterBlkNext n s = some t ∧
      (n < blockCount s → t.phase = .blkFetch ∧ t.blkX.toNat = 8 * (n % (s.width.toNat / 8)) ∧
        t.blkY.toNat = 8 * (n / (s.width.toNat / 8))) ∧
      (n = blockCount s → t.phase = .bwFinal ∧ t.blkX = 0 ∧ t.blkY = s.height)

/-! ## FDCT -/

/-- FDCT (R190, R191, R196): COEF[8v + u] is exactly the real number F(u, v) of the reference transform; PHASE moves; nothing
else changes. -/
def Obligations.FdctIsTheReferenceTransform : Prop :=
  ∀ s : State, ∃ t, exec .fdct s = .next t ∧ t = { s with coef := t.coef, phase := .quant } ∧
    ∀ u v : Fin 8, value t.coef[8 * v.val + u.val] = refDct s.samp u v

/-- The separable form, rows then columns by the even/odd butterfly with the constants DCTK, gives the same real numbers
(42_forward_dct.md section 2). -/
def Obligations.SeparableFormComputesTheSameReals : Prop :=
  ∀ (samp : Vector Byte 64) (u v : Fin 8), value (dctFast samp u v) = refDct samp u v

/-- The ranges of the coefficients (R197): COEF[0] = (Σ s - 8192)/8 in -1024..1016; every other is at most 1020 in magnitude,
and the pattern 255 0 0 255 255 0 0 255 along either axis reaches 1020. -/
def Obligations.CoefficientRanges : Prop :=
  (∀ samp : Vector Byte 64,
    value (dctBlock samp)[0] = ((sampleSum samp : ℝ) - 8192) / 8 ∧
    -1024 ≤ value (dctBlock samp)[0] ∧ value (dctBlock samp)[0] ≤ 1016 ∧
    ∀ i : Fin 64, i ≠ 0 → |value (dctBlock samp)[i]| ≤ 1020) ∧
  value (dctBlock (tabulate fun i => if i.val % 8 ∈ [0, 3, 4, 7] then 255 else 0))[4] = 1020 ∧
  value (dctBlock (tabulate fun i => if i.val / 8 ∈ [0, 3, 4, 7] then 255 else 0))[32] = 1020

/-! ## QUANT, ZIGZAG -/

/-- QUANT (R211): the least zero entry of the table is raised with nothing written; with no zero entry QUO[i] = COEF[i] / QT[i]
as real numbers, the same index in both, PHASE moves, nothing else changes. -/
def Obligations.QuantDividesAtTheSameIndex : Prop :=
  ∀ s : State,
    (∀ i : Fin 64, s.qt[i] = 0 → (∀ j : Fin 64, j < i → s.qt[j] ≠ 0) → exec .quant s = .next { s with
      errCode := .degenerateQuantEntry, errInfo := BitVec.ofNat 32 i.val, status := .error, phase := .error }) ∧
    ((∀ i : Fin 64, s.qt[i] ≠ 0) → ∃ t, exec .quant s = .next t ∧ t = { s with quo := t.quo, phase := .zigzag } ∧
      ∀ i : Fin 64, value t.quo[i] = value s.coef[i] / (s.qt[i].toNat : ℝ))

/-- ZIGZAG (R214): ZZ[k] is the real QUO[ZIGZAG[k]] truncated toward zero, LEN the number of nonzero entries; PHASE moves;
nothing else changes. -/
def Obligations.ZigzagTruncatesTheExactQuotients : Prop :=
  ∀ s : State, ∃ t, exec .zigzag s = .next t ∧ t = { s with zz := t.zz, len := t.len, phase := .entDc } ∧
    (∀ k : Fin 64, t.zz[k] = truncReal (value s.quo[Rom.zigzag[k]])) ∧
    t.len.val = (Finset.univ.filter fun k : Fin 64 => t.zz[k] ≠ 0).card

/-- Through FDCT, QUANT and ZIGZAG the DC entry is an integer division of the sample sum, and every entry is in range
(43_quantizer_zigzag.md section 2). -/
def Obligations.QuantizedEntriesStayInRange : Prop :=
  ∀ s : State, (∀ i : Fin 64, s.qt[i] ≠ 0) →
    ∃ t1 t2 t3, exec .fdct s = .next t1 ∧ exec .quant t1 = .next t2 ∧ exec .zigzag t2 = .next t3 ∧
      t3.zz[0] = (sampleSum s.samp - 8192).tdiv (8 * s.qt[0].toNat) ∧ -1024 ≤ t3.zz[0] ∧ t3.zz[0] ≤ 1016 ∧
      ∀ k : Fin 64, 1 ≤ k.val → t3.zz[k].natAbs ≤ 1020

/-! ## The entropy coder and the bit writer -/

/-- BW.WRITE (R261, R262): the `nbits` low bits of `bits` join the buffered bits, most significant first; full bytes go out
stuffed; the rest stays buffered; nothing else changes. So it is for any number of bits: none appends nothing (R261), and more
than 16, which no caller passes, go as one write after another would (log 19). -/
def Obligations.BwWriteConcatenatesBits : Prop :=
  ∀ (bits nbits : ℕ) (s : State), BitsHeld s → WithinCap s →
    EmitsOrOverflows s (exec (.bwWrite bits nbits) s) (natBits nbits bits) id

/-- Every row of HUFF_DC (DC.CAT0 to DC.CAT11) and of HUFF_AC (AC.EOB, AC.ZRL and the 160 AC.R<run>S<size>): the coded item
puts exactly the bits of its encoding, codeword then magnitude, into the stream, and nothing else changes (30_encoding.md). -/
def Obligations.CodedItemsEmitTheirEncoding : Prop :=
  ∀ (i : Instr) (bits : List Bool) (s : State),
    encode i = .sub (.huffDc bits) ∨ encode i = .sub (.huffAc bits) → BitsHeld s → WithinCap s →
    EmitsOrOverflows s (exec i s) bits id

/-- BW.FINALIZE (R264): the buffered bits are discarded, nothing is appended. -/
def Obligations.BwFinalizeDiscardsTheRest : Prop :=
  ∀ s : State, exec .bwFinalize s = .next { s with acc := 0, accn := 0, phase := .hdrEoi }

/-- ENT.DC (R232): the difference of ZZ[0] (0 when LEN = 0) and PRED goes out as category codeword and magnitude, PRED takes
the new value, PHASE moves, nothing else changes; a category above 11 is the model-level fault. -/
def Obligations.EntDcCodesTheDifference : Prop :=
  ∀ s : State, BitsHeld s → WithinCap s →
    let dc := if 0 < s.len.val then s.zz[0] else 0
    let delta := dc - s.pred
    (delta.natAbs < 2048 →
      EmitsOrOverflows s (exec .entDc s) (dcBits delta) fun u => { u with pred := dc, phase := .entAc }) ∧
    (2048 ≤ delta.natAbs → exec .entDc s = .fault (.noCodeword (bitlen delta.natAbs)))

/-- ENT.AC (R236): the entries ZZ[1..LEN-1], LEN a count, go out as runs, codewords and magnitudes; NZ is left at the zeros
after the last coded one; PHASE moves; nothing else changes. An entry of category above 10 is the model-level fault, unless the
buffer overflowed before it: no codeword is ever made up. -/
def Obligations.EntAcCodesTheExaminedEntries : Prop :=
  ∀ s : State, BitsHeld s → WithinCap s →
    ((∀ v ∈ examined s.zz s.len.val, v.natAbs < 1024) →
      EmitsOrOverflows s (exec .entAc s) (acBits 0 (examined s.zz s.len.val)) fun u =>
        { u with nz := trailingZeros 0 (examined s.zz s.len.val), phase := .entEob }) ∧
    ((∃ v ∈ examined s.zz s.len.val, 1024 ≤ v.natAbs) →
      (∃ symbol, exec .entAc s = .fault (.noCodeword symbol)) ∨ (s.outCap ≠ none ∧ exec .entAc s = .next (overflowed s)))

/-- The entries at positions LEN and above are never examined (44_entropy_encoder.md section 3). -/
def Obligations.EntriesFromLenOnAreDropped : Prop :=
  ∀ (s t : State) (zz : Vector ℤ 64), (∀ k : Fin 64, 1 ≤ k.val → k.val < s.len.val → zz[k] = s.zz[k]) →
    exec .entAc s = .next t → exec .entAc { s with zz := zz } = .next { t with zz := zz }

/-- ENT.EOB (R240): 1010 goes out exactly when LEN < 64; PHASE moves; nothing else changes. -/
def Obligations.EntEobMarksShortBlocks : Prop :=
  ∀ s : State, BitsHeld s → WithinCap s →
    EmitsOrOverflows s (exec .entEob s) (if s.len.val < 64 then [true, false, true, false] else []) fun u =>
      { u with phase := .blkNext }

/-- The all-zero block with PRED = 0 is coded as 00, nothing, 1010 (R241). -/
def Obligations.AllZeroBlockIsSixBits : Prop :=
  ∀ s : State, BitsHeld s → s.outCap = none → (∀ k : Fin 64, s.zz[k] = 0) → s.len = 0 → s.pred = 0 →
    ∃ t1 t2 t3, exec .entDc s = .next t1 ∧ exec .entAc t1 = .next t2 ∧ exec .entEob t2 = .next t3 ∧ t3.pred = 0 ∧
      Appended s t3 (bytesOut s [false, false, true, false, true, false]) ∧
      pendingBits t3 = leftBits (pendingBits s ++ [false, false, true, false, true, false])

/-! ## Rules about the whole machine -/

/-- Each working buffer, and LEN, is written by one operation only (10_state.md section 4). -/
def Obligations.BuffersHaveOneWriter : Prop :=
  ∀ (i : Instr) (s t : State), exec i s = .next t →
    (i ≠ .qtbBuild → t.qt = s.qt) ∧ (i ≠ .blkFetch → t.samp = s.samp) ∧ (i ≠ .fdct → t.coef = s.coef) ∧
    (i ≠ .quant → t.quo = s.quo) ∧ (i ≠ .zigzag → t.zz = s.zz ∧ t.len = s.len)

/-- No operation writes the parameters, the image, the capacity or the host's own part; the cursor, PRED and NZ have the
writers the spec gives them (R30, R35, R42, R49, R50, R83). -/
def Obligations.OperationsKeepToTheirState : Prop :=
  ∀ (i : Instr) (s t : State), exec i s = .next t →
    (t.width = s.width ∧ t.height = s.height ∧ t.quality = s.quality ∧ t.img = s.img ∧ t.outCap = s.outCap ∧
      t.inputs = s.inputs ∧ t.rdata = s.rdata ∧ t.rdout = s.rdout ∧ t.draws = s.draws) ∧
    ((∀ ignored, i ≠ .encode ignored) →
      t.torn = s.torn ∧ (i ≠ .blkNext → t.blkX = s.blkX ∧ t.blkY = s.blkY) ∧ (i ≠ .entDc → t.pred = s.pred)) ∧
    (i ≠ .entAc → t.nz = s.nz)

/-- The invariant of control, cursor, accumulator and memories is kept by every step of a hardware run. -/
def Obligations.EveryStepKeepsTheInvariant : Prop := ∀ s t : State, Inv s → step s = .next t → Inv t

/-- The value ranges, and what the buffers hold between writer and reader, are kept by every step (R48 to R50, R217, R244). -/
def Obligations.EveryStepKeepsTheRanges : Prop :=
  ∀ s t : State, Inv s → ValueInv s → step s = .next t → ValueInv t

/-- The shape of the stream is kept by every step: header offsets, SOI first, every 0xFF of the entropy-coded segment followed
by 0x00, EOI last at DONE (R267, R289, R290). -/
def Obligations.EveryStepKeepsTheStreamShape : Prop :=
  ∀ s t : State, Inv s → StreamInv s → step s = .next t → StreamInv t

/-- The three invariants hold after reset. -/
def Obligations.ResetSatisfiesTheInvariants : Prop := Inv State.reset ∧ ValueInv State.reset ∧ StreamInv State.reset

/-- In a hardware run no step ends in a model-level fault: every symbol formed has a codeword and every block fetched lies in
the image (R184, R244). -/
def Obligations.NoStepFaults : Prop := ∀ (s : State) (f : Fault), Inv s → ValueInv s → step s ≠ .fault f

/-- An encode of a legal image at quality 98 or above fails at the first block, whatever the image: its twelfth operation raises
DEGENERATE_QUANT_ENTRY, with index 1 at 98 and index 0 above (40_qtable_builder.md section 3). -/
def Obligations.HighQualityEncodesFail : Prop :=
  ∀ s u : State, Ready s → legalDimension s.width = true → legalDimension s.height = true → 98 ≤ s.quality.toInt →
    (∀ cap, s.outCap = some cap → 328 ≤ cap) → Started s u →
    ∃ t, Runs 12 u t ∧ t.status = .error ∧ t.errCode = .degenerateQuantEntry ∧
      t.errInfo = if s.quality.toInt = 98 then 1 else 0

/-- Every encode ends: from a busy state of a hardware run with no input waiting, finitely many steps lead to DONE or ERROR
(R400). -/
def Obligations.EveryEncodeEnds : Prop :=
  ∀ s : State, Inv s → ValueInv s → s.inputs = [] → s.status = .busy →
    ∃ (k : ℕ) (t : State), Runs k s t ∧ (t.status = .done ∨ t.status = .error)

/-- A legal image at quality 1 to 97 is encoded, whatever the capacity that holds the result, in exactly 11 + 8N operations, N
the number of blocks (R313). -/
def Obligations.EncodeTakesElevenPlusEightN : Prop :=
  ∀ s u : State, Ready s → CanSucceed s → Fits s → Started s u →
    (∃ t, Runs (11 + 8 * blockCount s) u t ∧ t.status = .done) ∧
    ∀ k, k < 11 + 8 * blockCount s → ∃ t, Runs k u t ∧ t.status = .busy

/-- The successful result in closed form (R317): header, the stuffed full bytes of the blocks' bits in raster order with the
predictor threading through, EOI. A capacity that does not hold it ends the encode in OUTPUT_OVERFLOW. -/
def Obligations.EncodeResultInClosedForm : Prop :=
  ∀ s u : State, Ready s → CanSucceed s → Started s u →
    (Fits s → ∃ k t, Runs k u t ∧ t.status = .done ∧ outBytes t = encodeBytes s) ∧
    (¬Fits s → ∃ k t, Runs k u t ∧ t.status = .error ∧ t.errCode = .outputOverflow ∧
      t.errInfo = BitVec.ofNat 32 (s.outCap.getD 0))

/-- The encode is a function of WIDTH, HEIGHT, QUALITY, the image and OUT_CAP (R316): two machines that agree on these, whatever
else they hold, show the same STATUS, ERRCODE, ERRINFO and, when DONE, the same bytes after every number of steps. -/
def Obligations.EncodeDependsOnItsInputsOnly : Prop :=
  ∀ s s' u u' : State, Ready s → Ready s' → s.width = s'.width → s.height = s'.height → s.quality = s'.quality →
    s.outCap = s'.outCap → (∀ a, a < s.width.toNat * s.height.toNat →
      s.img.read Config.imgPowerOn a = s'.img.read Config.imgPowerOn a) → Started s u → Started s' u' →
    ∀ (k : ℕ) (t : State), Runs k u t → ∃ t', Runs k u' t' ∧ t.status = t'.status ∧ t.errCode = t'.errCode ∧
      t.errInfo = t'.errInfo ∧ (t.status = .done → outBytes t = outBytes t')

/-! ## The host's accesses -/

/-- A word read of REG at a multiple of 4 returns the register, reserved bits 0, reserved offsets 0, and changes nothing but
the host's read data (10_state.md section 2). -/
def Obligations.RegReadsReturnTheRegisters : Prop :=
  ∀ (s : State) (offset : BitVec 8) (rest : List Input), s.inputs = .host (.regRead offset .word) :: rest →
    offset.toNat % 4 = 0 →
    ∃ d : BitVec 32, step s = .next { s with inputs := rest, rdata := d } ∧
      (offset = 0x00 → d = 0) ∧
      (offset = 0x04 → d.toNat = match s.status with | .idle => 0 | .busy => 1 | .done => 2 | .error => 4) ∧
      (offset = 0x08 → d.toNat = s.width.toNat) ∧ (offset = 0x0C → d.toNat = s.height.toNat) ∧
      (offset = 0x10 → d.toNat = s.quality.toNat) ∧
      (offset = 0x14 → d.toNat = match s.errCode with
        | .none => 0 | .invalidDimension => 1 | .invalidQuality => 2 | .degenerateQuantEntry => 3 | .outputOverflow => 4) ∧
      (offset = 0x18 → d = s.errInfo) ∧
      (offset = 0x1C → d.toNat = if s.status = .done then s.outlen % 2 ^ 32 else 0) ∧
      (offset = 0x20 → d.toNat = if s.status = .done then s.outlen / 2 ^ 32 % 2 ^ 32 else 0) ∧
      (0x20 < offset.toNat → d = 0)

/-- A word write of REG at a multiple of 4: while BUSY it is ignored; otherwise the three parameters take bits [15:0], CTRL
with bit 0 clear does nothing, and every other offset is ignored (R33, R35, R36, R97, R130). -/
def Obligations.RegWritesSetTheParameters : Prop :=
  ∀ (s : State) (offset : BitVec 8) (data : BitVec 32) (rest : List Input),
    s.inputs = .host (.regWrite offset .word data) :: rest → offset.toNat % 4 = 0 →
    (s.status = .busy → step s = .next { s with inputs := rest }) ∧
    (s.status ≠ .busy →
      (offset = 0x00 → data.getLsbD 0 = false → step s = .next { s with inputs := rest }) ∧
      (offset = 0x08 → step s = .next { s with inputs := rest, width := BitVec.ofNat 16 data.toNat }) ∧
      (offset = 0x0C → step s = .next { s with inputs := rest, height := BitVec.ofNat 16 data.toNat }) ∧
      (offset = 0x10 → step s = .next { s with inputs := rest, quality := BitVec.ofNat 16 data.toNat }) ∧
      (offset ∉ [0x00#8, 0x08#8, 0x0C#8, 0x10#8] → step s = .next { s with inputs := rest }))

/-- A REG access that is narrow or misaligned is refused (R81). -/
def Obligations.IllFormedRegAccessIsRefused : Prop :=
  ∀ (s : State) (offset : BitVec 8) (width : AccessWidth) (data : BitVec 32) (rest : List Input),
    s.inputs = .host (.regRead offset width) :: rest ∨ s.inputs = .host (.regWrite offset width data) :: rest →
    (width ≠ .word → step s = .refused .regNarrow) ∧
    (width = .word → offset.toNat % 4 ≠ 0 → step s = .refused .regMisaligned)

/-- A host write of one IMG byte, at any address IMG has: the address reads as the byte from then on, every other as before;
while not BUSY nothing else changes, while BUSY the byte replaced is recorded (R80, R82, R97; the record is the model's, log 10).
An address that no image has is refused (log 11). -/
def Obligations.ImgWritesStoreOneByte : Prop :=
  ∀ (s : State) (addr : BitVec 32) (byte : Byte) (rest : List Input), s.inputs = .host (.imgWrite addr byte) :: rest →
    (addr.toNat < 65528 * 65528 → ∃ t, step s = .next t ∧
      t = { s with inputs := rest, img := t.img, torn := t.torn, draws := t.draws } ∧
      t.img.read Config.imgPowerOn addr.toNat = byte ∧
      (∀ a, a ≠ addr.toNat → t.img.read Config.imgPowerOn a = s.img.read Config.imgPowerOn a) ∧
      (s.status ≠ .busy → t.torn = s.torn ∧ t.draws = s.draws) ∧
      (s.status = .busy →
        t.torn = (addr.toNat, s.img.read Config.imgPowerOn addr.toNat) :: s.torn ∧ t.draws = s.draws + 1)) ∧
    (65528 * 65528 ≤ addr.toNat → step s = .refused .imgNoSuchAddress)

/-- A host read of one IMG byte returns the byte written last, or what the address held before any write, and changes nothing
but the host's read data (R80, R82, R383; log 12). An address that no image has is refused (log 11). -/
def Obligations.ImgReadsReturnTheByte : Prop :=
  ∀ (s : State) (addr : BitVec 32) (rest : List Input), s.inputs = .host (.imgRead addr) :: rest →
    (addr.toNat < 65528 * 65528 → step s = .next { s with
      inputs := rest, rdata := BitVec.ofNat 32 (s.img.read Config.imgPowerOn addr.toNat).toNat }) ∧
    (65528 * 65528 ≤ addr.toNat → step s = .refused .imgNoSuchAddress)

/-- OUT is readable only while DONE, a byte only below OUTLEN; the host then gets the bytes that stand there, one or all of them,
and nothing changes but its read data (R39, R85, R133; where read data stand is the model's choice, log 12). -/
def Obligations.OutIsReadableOnlyWhenDone : Prop :=
  ∀ (s : State) (rest : List Input),
    (∀ a, s.inputs = .host (.outRead a) :: rest →
      (s.status = .done → a < s.outlen →
        step s = .next { s with inputs := rest, rdata := BitVec.ofNat 32 (outByte s a).toNat }) ∧
      (s.status = .done → s.outlen ≤ a → step s = .refused .outBeyondLength) ∧
      (s.status ≠ .done → step s = .refused .outNotReadable)) ∧
    (s.inputs = .host .rdOut :: rest →
      (s.status = .done → ∃ t, step s = .next t ∧ t = { s with inputs := rest, rdout := t.rdout } ∧
        t.rdout.length = s.outlen ∧ ∀ (a : ℕ) (h : a < t.rdout.length), t.rdout[a] = outByte s a) ∧
      (s.status ≠ .done → step s = .refused .outNotReadable)) ∧
    (s.status ≠ .done → regValue s 0x1C = 0 ∧ regValue s 0x20 = 0)

/-- The end of the ENCODE pseudo-instruction: RDOUT comes next if DONE, else reads of ERRCODE and then ERRINFO; nothing else
changes (R133; that one input does this is the model's choice, log 28). -/
def Obligations.CollectReadsTheResultOrTheError : Prop :=
  ∀ (s : State) (rest : List Input), s.inputs = .host .collect :: rest →
    (s.status = .done → step s = .next { s with inputs := .host .rdOut :: rest }) ∧
    (s.status ≠ .done → step s = .next { s with
      inputs := .host (.regRead 0x14 .word) :: .host (.regRead 0x18 .word) :: rest })
end

