-- ==== Sys2Proof/Laws/Memory.lean ====
section
/-! SUPPORT. The laws of byte memories: read after write, and that every operation keeps the canonical form. -/

namespace Sys2Proof.Machine

/-! ## Read after write -/

@[simp] theorem Memory.lookup_write_same (m : Memory) (a : Nat) (b : Byte) : (m.write a b).lookup a = some b := by
  induction m with
  | nil => simp [write, lookup]
  | cons c cells ih =>
    obtain ⟨a', b'⟩ := c
    unfold write
    split
    · simp [lookup]
    · split
      · simp [lookup]
      · simp [lookup, *]

theorem Memory.lookup_write_other (m : Memory) (a x : Nat) (b : Byte) (h : x ≠ a) :
    (m.write a b).lookup x = m.lookup x := by
  induction m with
  | nil => simp [write, lookup, h]
  | cons c cells ih =>
    obtain ⟨a', b'⟩ := c
    unfold write
    split
    · rename_i ha
      by_cases hx : x < a
      · have h1 : x ≠ a' := by omega
        have h2 : x < a' := by omega
        simp [lookup, h, hx, h1, h2]
      · simp [lookup, h, hx]
    · split
      · rename_i ha
        subst ha
        simp [lookup, h]
      · simp [lookup, ih]

@[simp] theorem Memory.read_write_same (m : Memory) (f : Nat → Byte) (a : Nat) (b : Byte) :
    (m.write a b).read f a = b := by
  simp [read]

theorem Memory.read_write_other (m : Memory) (f : Nat → Byte) (a x : Nat) (b : Byte) (h : x ≠ a) :
    (m.write a b).read f x = m.read f x := by
  simp [read, lookup_write_other m a x b h]

/-- After `writeAll`, the addresses outside the bytes written read as before. -/
theorem Memory.read_writeAll_outside (f : Nat → Byte) (bytes : List Byte) (m : Memory) (a x : Nat)
    (h : x < a ∨ a + bytes.length ≤ x) : (m.writeAll a bytes).read f x = m.read f x := by
  induction bytes generalizing m a with
  | nil => rfl
  | cons b bytes ih =>
    simp only [List.length_cons] at h
    rw [writeAll, ih _ _ (by omega), read_write_other _ _ _ _ _ (by omega)]

/-- After `writeAll`, the j-th byte written reads back. -/
theorem Memory.read_writeAll_inside (f : Nat → Byte) (bytes : List Byte) (m : Memory) (a j : Nat) (h : j < bytes.length) :
    (m.writeAll a bytes).read f (a + j) = bytes[j] := by
  induction bytes generalizing m a j with
  | nil => simp at h
  | cons b bytes ih =>
    cases j with
    | zero => rw [writeAll, read_writeAll_outside _ _ _ _ _ (by omega)]; simp
    | succ j =>
      have := ih (m.write a b) (a + 1) j (by simpa using h)
      rw [show a + (j + 1) = a + 1 + j by omega]
      simpa [writeAll] using this

theorem Memory.writeAll_append (xs ys : List Byte) (m : Memory) (a : Nat) :
    m.writeAll a (xs ++ ys) = (m.writeAll a xs).writeAll (a + xs.length) ys := by
  induction xs generalizing m a with
  | nil => rfl
  | cons b xs ih => simp [writeAll, ih, Nat.add_assoc, Nat.add_comm 1]

/-! ## The canonical form -/

/-- The first address of a nonempty memory is the least; `write` puts there the old one or the new. -/
theorem Memory.wf_cons_write (m : Memory) (a0 a : Nat) (b0 b : Byte) (h0 : a0 < a) (h : wf ((a0, b0) :: m) = true)
    (ih : wf (m.write a b) = true) : wf ((a0, b0) :: m.write a b) = true := by
  cases m with
  | nil => simp [write, wf, h0]
  | cons c cells =>
    obtain ⟨a1, b1⟩ := c
    have h1 : a0 < a1 := by simp [wf] at h; exact h.1
    unfold write at ih ⊢
    split
    · rename_i hlt; simp only [hlt, if_true] at ih; simp [wf, h0] at ih ⊢; exact ih
    · rename_i hlt
      split
      · rename_i heq; simp only [heq, if_true] at ih; subst heq; simp [wf, h1] at ih ⊢; simpa using ih
      · rename_i heq; simp only [hlt, heq, if_false] at ih; simp [wf, h1, ih]

theorem Memory.wf_tail (c : Host.Cell) (m : Memory) (h : wf (c :: m) = true) : wf m = true := by
  cases m with
  | nil => rfl
  | cons c' cells => simp [wf] at h; exact h.2

/-- Writing a byte keeps the canonical form. -/
theorem Memory.write_wf (m : Memory) (a : Nat) (b : Byte) (h : m.wf = true) : (m.write a b).wf = true := by
  induction m with
  | nil => rfl
  | cons c cells ih =>
    obtain ⟨a0, b0⟩ := c
    have hi := ih (wf_tail _ _ h)
    unfold write
    split
    · rename_i hlt; simp [wf, hlt, h]
    · split
      · rename_i heq
        subst heq
        cases cells with
        | nil => rfl
        | cons c' cells' => simpa [wf] using h
      · exact wf_cons_write cells a0 a b0 b (by omega) h hi

/-- Writing bytes keeps the canonical form. -/
theorem Memory.writeAll_wf (bytes : List Byte) (m : Memory) (a : Nat) (h : m.wf = true) : (m.writeAll a bytes).wf = true := by
  induction bytes generalizing m a with
  | nil => exact h
  | cons b bytes ih => exact ih _ _ (write_wf m a b h)

/-- Both memories are in canonical form after reset. -/
theorem State.reset_memories_wf : Memory.wf State.reset.img = true ∧ Memory.wf State.reset.out = true := ⟨rfl, rfl⟩

/-! ## The accesses -/

@[simp] theorem outByte_pushOut_same (s : State) (b : Byte) : outByte (s.pushOut b) s.outlen = b := by
  simp [outByte, State.pushOut]

theorem outByte_pushOut_other (s : State) (b : Byte) (a : Nat) (h : a ≠ s.outlen) :
    outByte (s.pushOut b) a = outByte s a := by
  simp [outByte, State.pushOut, Memory.read_write_other _ _ _ _ _ h]

theorem State.pushOut_wf (s : State) (b : Byte) (h : Memory.wf s.out = true) : Memory.wf (s.pushOut b).out = true :=
  Memory.write_wf _ _ _ h

/-- A host write keeps IMG canonical, and leaves every other address of IMG alone. -/
theorem imgStore_img (s : State) (a : Nat) (b : Byte) : (imgStore s a b).img = s.img.write a b := by
  unfold imgStore
  simp only
  split <;> rfl

/-- Everything a host write of IMG changes: the byte, and while BUSY the record of the byte it replaced (log 10). -/
theorem imgStore_eq (s : State) (a : Nat) (b : Byte) :
    imgStore s a b = { s with
      img := s.img.write a b,
      torn := if s.busy then (a, s.img.read Config.imgPowerOn a) :: s.torn else s.torn,
      draws := if s.busy then s.draws + 1 else s.draws } := by
  unfold imgStore
  cases s.busy <;> rfl

@[simp] theorem imgStore_read_same (s : State) (a : Nat) (b : Byte) :
    (imgStore s a b).img.read Config.imgPowerOn a = b := by
  rw [imgStore_img, Memory.read_write_same]

theorem imgStore_read_other (s : State) (a x : Nat) (b : Byte) (h : x ≠ a) :
    (imgStore s a b).img.read Config.imgPowerOn x = s.img.read Config.imgPowerOn x := by
  rw [imgStore_img, Memory.read_write_other _ _ _ _ _ h]

theorem imgStore_wf (s : State) (a : Nat) (b : Byte) (h : Memory.wf s.img = true) :
    Memory.wf (imgStore s a b).img = true := by
  rw [imgStore_img]; exact Memory.write_wf _ _ _ h

end Sys2Proof.Machine
end

