-- ==== Sys2Proof/Laws/Operands.lean ====
section
/-! SUPPORT. The laws of the operand forms: the elements of a buffer, the codes of the PHASEs, clamps and categories. -/

namespace Sys2Proof.Machine

/-! ## Buffers -/

@[simp] theorem tabulate_getElem {α : Type} (f : Fin 64 → α) (i : Nat) (h : i < 64) : (tabulate f)[i] = f ⟨i, h⟩ := by
  simp [tabulate]

theorem tabulate_get {α : Type} (f : Fin 64 → α) (i : Fin 64) : (tabulate f)[i] = f i := by simp

/-- A buffer is the table of its elements. -/
theorem tabulate_self {α : Type} (v : Vector α 64) : (tabulate fun i => v[i]) = v := by
  apply Vector.ext
  intro i h
  simp

/-- The zero entry that QUANT reports is a zero, and no entry before it is one. -/
theorem zeroEntry_some {qt : Vector Byte 64} {i : Fin 64} (h : zeroEntry qt = some i) :
    qt[i] = 0 ∧ ∀ j : Fin 64, j < i → qt[j] ≠ 0 := by
  unfold zeroEntry at h
  refine ⟨by simpa using List.find?_some h, fun j hj => ?_⟩
  obtain ⟨_, k, hk, hik, hbefore⟩ := List.find?_eq_some_iff_getElem.mp h
  have hki : k = i.val := by rw [← hik]; simp
  have := hbefore j.val (by omega)
  simpa using this

theorem zeroEntry_none {qt : Vector Byte 64} : zeroEntry qt = none ↔ ∀ i : Fin 64, qt[i] ≠ 0 := by
  simp [zeroEntry]

/-! ## PHASE -/

@[simp] theorem phaseOfCode_phaseCode (p : Phase) : phaseOfCode (phaseCode p) = some p := by cases p <;> rfl

/-- A PHASE with an operation is a PHASE whose STATUS is BUSY. -/
theorem decode_phaseCode_busy (p : Phase) : (∃ i, decode (.uop (phaseCode p)) = .ok i) ↔ statusOfPhase p = .busy := by
  cases p <;> simp [phaseCode, decode, decodeUop, statusOfPhase]

/-! ## Numbers -/

theorem clamp_bounds (n lo hi : Int) (h : lo ≤ hi) : lo ≤ clamp n lo hi ∧ clamp n lo hi ≤ hi := by
  unfold clamp
  omega

theorem clamp_of_mem {n lo hi : Int} (h : lo ≤ n) (h' : n ≤ hi) : clamp n lo hi = n := by
  unfold clamp
  omega

/-- `bitlen n` is the least c with n < 2^c (R14). -/
theorem bitlen_le_iff (n c : Nat) : bitlen n ≤ c ↔ n < 2 ^ c := by
  unfold bitlen
  split
  · rename_i h; simp [h]
  · rename_i h
    rw [Nat.succ_le_iff, Nat.log2_lt h]

theorem lt_two_pow_bitlen (n : Nat) : n < 2 ^ bitlen n := (bitlen_le_iff n _).mp (Nat.le_refl _)

/-- The magnitude field of a value fits in as many bits as its category (R126). -/
theorem magValue_lt (v : Int) : magValue v (category v) < 2 ^ category v := by
  have h := lt_two_pow_bitlen v.natAbs
  unfold magValue category complBits
  split <;> omega

end Sys2Proof.Machine
end

