-- ==== Sys2Proof/Laws/State.lean ====
section
/-! SUPPORT. What each named update of the state does to each field: what a later proof cites instead of unfolding a record
update. -/

namespace Sys2Proof.Machine

variable (s : State)

/-! ## goto -/

@[simp] theorem State.goto_width (p : Phase) : (s.goto p).width = s.width := rfl
@[simp] theorem State.goto_height (p : Phase) : (s.goto p).height = s.height := rfl
@[simp] theorem State.goto_quality (p : Phase) : (s.goto p).quality = s.quality := rfl
@[simp] theorem State.goto_status (p : Phase) : (s.goto p).status = s.status := rfl
@[simp] theorem State.goto_errCode (p : Phase) : (s.goto p).errCode = s.errCode := rfl
@[simp] theorem State.goto_errInfo (p : Phase) : (s.goto p).errInfo = s.errInfo := rfl
@[simp] theorem State.goto_phase (p : Phase) : (s.goto p).phase = p := rfl
@[simp] theorem State.goto_blkX (p : Phase) : (s.goto p).blkX = s.blkX := rfl
@[simp] theorem State.goto_blkY (p : Phase) : (s.goto p).blkY = s.blkY := rfl
@[simp] theorem State.goto_qt (p : Phase) : (s.goto p).qt = s.qt := rfl
@[simp] theorem State.goto_samp (p : Phase) : (s.goto p).samp = s.samp := rfl
@[simp] theorem State.goto_coef (p : Phase) : (s.goto p).coef = s.coef := rfl
@[simp] theorem State.goto_quo (p : Phase) : (s.goto p).quo = s.quo := rfl
@[simp] theorem State.goto_zz (p : Phase) : (s.goto p).zz = s.zz := rfl
@[simp] theorem State.goto_len (p : Phase) : (s.goto p).len = s.len := rfl
@[simp] theorem State.goto_pred (p : Phase) : (s.goto p).pred = s.pred := rfl
@[simp] theorem State.goto_nz (p : Phase) : (s.goto p).nz = s.nz := rfl
@[simp] theorem State.goto_acc (p : Phase) : (s.goto p).acc = s.acc := rfl
@[simp] theorem State.goto_accn (p : Phase) : (s.goto p).accn = s.accn := rfl
@[simp] theorem State.goto_out (p : Phase) : (s.goto p).out = s.out := rfl
@[simp] theorem State.goto_outlen (p : Phase) : (s.goto p).outlen = s.outlen := rfl
@[simp] theorem State.goto_outCap (p : Phase) : (s.goto p).outCap = s.outCap := rfl
@[simp] theorem State.goto_img (p : Phase) : (s.goto p).img = s.img := rfl
@[simp] theorem State.goto_torn (p : Phase) : (s.goto p).torn = s.torn := rfl
@[simp] theorem State.goto_draws (p : Phase) : (s.goto p).draws = s.draws := rfl
@[simp] theorem State.goto_inputs (p : Phase) : (s.goto p).inputs = s.inputs := rfl
@[simp] theorem State.goto_rdata (p : Phase) : (s.goto p).rdata = s.rdata := rfl
@[simp] theorem State.goto_rdout (p : Phase) : (s.goto p).rdout = s.rdout := rfl

/-! ## withBits -/

@[simp] theorem State.withBits_width (a n : Nat) : (s.withBits a n).width = s.width := rfl
@[simp] theorem State.withBits_height (a n : Nat) : (s.withBits a n).height = s.height := rfl
@[simp] theorem State.withBits_quality (a n : Nat) : (s.withBits a n).quality = s.quality := rfl
@[simp] theorem State.withBits_status (a n : Nat) : (s.withBits a n).status = s.status := rfl
@[simp] theorem State.withBits_errCode (a n : Nat) : (s.withBits a n).errCode = s.errCode := rfl
@[simp] theorem State.withBits_errInfo (a n : Nat) : (s.withBits a n).errInfo = s.errInfo := rfl
@[simp] theorem State.withBits_phase (a n : Nat) : (s.withBits a n).phase = s.phase := rfl
@[simp] theorem State.withBits_blkX (a n : Nat) : (s.withBits a n).blkX = s.blkX := rfl
@[simp] theorem State.withBits_blkY (a n : Nat) : (s.withBits a n).blkY = s.blkY := rfl
@[simp] theorem State.withBits_qt (a n : Nat) : (s.withBits a n).qt = s.qt := rfl
@[simp] theorem State.withBits_samp (a n : Nat) : (s.withBits a n).samp = s.samp := rfl
@[simp] theorem State.withBits_coef (a n : Nat) : (s.withBits a n).coef = s.coef := rfl
@[simp] theorem State.withBits_quo (a n : Nat) : (s.withBits a n).quo = s.quo := rfl
@[simp] theorem State.withBits_zz (a n : Nat) : (s.withBits a n).zz = s.zz := rfl
@[simp] theorem State.withBits_len (a n : Nat) : (s.withBits a n).len = s.len := rfl
@[simp] theorem State.withBits_pred (a n : Nat) : (s.withBits a n).pred = s.pred := rfl
@[simp] theorem State.withBits_nz (a n : Nat) : (s.withBits a n).nz = s.nz := rfl
@[simp] theorem State.withBits_acc (a n : Nat) : (s.withBits a n).acc = a := rfl
@[simp] theorem State.withBits_accn (a n : Nat) : (s.withBits a n).accn = n := rfl
@[simp] theorem State.withBits_out (a n : Nat) : (s.withBits a n).out = s.out := rfl
@[simp] theorem State.withBits_outlen (a n : Nat) : (s.withBits a n).outlen = s.outlen := rfl
@[simp] theorem State.withBits_outCap (a n : Nat) : (s.withBits a n).outCap = s.outCap := rfl
@[simp] theorem State.withBits_img (a n : Nat) : (s.withBits a n).img = s.img := rfl
@[simp] theorem State.withBits_torn (a n : Nat) : (s.withBits a n).torn = s.torn := rfl
@[simp] theorem State.withBits_draws (a n : Nat) : (s.withBits a n).draws = s.draws := rfl
@[simp] theorem State.withBits_inputs (a n : Nat) : (s.withBits a n).inputs = s.inputs := rfl
@[simp] theorem State.withBits_rdata (a n : Nat) : (s.withBits a n).rdata = s.rdata := rfl
@[simp] theorem State.withBits_rdout (a n : Nat) : (s.withBits a n).rdout = s.rdout := rfl

/-! ## pushOut -/

@[simp] theorem State.pushOut_width (b : Byte) : (s.pushOut b).width = s.width := rfl
@[simp] theorem State.pushOut_height (b : Byte) : (s.pushOut b).height = s.height := rfl
@[simp] theorem State.pushOut_quality (b : Byte) : (s.pushOut b).quality = s.quality := rfl
@[simp] theorem State.pushOut_status (b : Byte) : (s.pushOut b).status = s.status := rfl
@[simp] theorem State.pushOut_errCode (b : Byte) : (s.pushOut b).errCode = s.errCode := rfl
@[simp] theorem State.pushOut_errInfo (b : Byte) : (s.pushOut b).errInfo = s.errInfo := rfl
@[simp] theorem State.pushOut_phase (b : Byte) : (s.pushOut b).phase = s.phase := rfl
@[simp] theorem State.pushOut_blkX (b : Byte) : (s.pushOut b).blkX = s.blkX := rfl
@[simp] theorem State.pushOut_blkY (b : Byte) : (s.pushOut b).blkY = s.blkY := rfl
@[simp] theorem State.pushOut_qt (b : Byte) : (s.pushOut b).qt = s.qt := rfl
@[simp] theorem State.pushOut_samp (b : Byte) : (s.pushOut b).samp = s.samp := rfl
@[simp] theorem State.pushOut_coef (b : Byte) : (s.pushOut b).coef = s.coef := rfl
@[simp] theorem State.pushOut_quo (b : Byte) : (s.pushOut b).quo = s.quo := rfl
@[simp] theorem State.pushOut_zz (b : Byte) : (s.pushOut b).zz = s.zz := rfl
@[simp] theorem State.pushOut_len (b : Byte) : (s.pushOut b).len = s.len := rfl
@[simp] theorem State.pushOut_pred (b : Byte) : (s.pushOut b).pred = s.pred := rfl
@[simp] theorem State.pushOut_nz (b : Byte) : (s.pushOut b).nz = s.nz := rfl
@[simp] theorem State.pushOut_acc (b : Byte) : (s.pushOut b).acc = s.acc := rfl
@[simp] theorem State.pushOut_accn (b : Byte) : (s.pushOut b).accn = s.accn := rfl
@[simp] theorem State.pushOut_out (b : Byte) : (s.pushOut b).out = s.out.write s.outlen b := rfl
@[simp] theorem State.pushOut_outlen (b : Byte) : (s.pushOut b).outlen = s.outlen + 1 := rfl
@[simp] theorem State.pushOut_outCap (b : Byte) : (s.pushOut b).outCap = s.outCap := rfl
@[simp] theorem State.pushOut_img (b : Byte) : (s.pushOut b).img = s.img := rfl
@[simp] theorem State.pushOut_torn (b : Byte) : (s.pushOut b).torn = s.torn := rfl
@[simp] theorem State.pushOut_draws (b : Byte) : (s.pushOut b).draws = s.draws := rfl
@[simp] theorem State.pushOut_inputs (b : Byte) : (s.pushOut b).inputs = s.inputs := rfl
@[simp] theorem State.pushOut_rdata (b : Byte) : (s.pushOut b).rdata = s.rdata := rfl
@[simp] theorem State.pushOut_rdout (b : Byte) : (s.pushOut b).rdout = s.rdout := rfl

/-! ## withNz -/

@[simp] theorem State.withNz_width (n : Nat) : (s.withNz n).width = s.width := rfl
@[simp] theorem State.withNz_height (n : Nat) : (s.withNz n).height = s.height := rfl
@[simp] theorem State.withNz_quality (n : Nat) : (s.withNz n).quality = s.quality := rfl
@[simp] theorem State.withNz_status (n : Nat) : (s.withNz n).status = s.status := rfl
@[simp] theorem State.withNz_errCode (n : Nat) : (s.withNz n).errCode = s.errCode := rfl
@[simp] theorem State.withNz_errInfo (n : Nat) : (s.withNz n).errInfo = s.errInfo := rfl
@[simp] theorem State.withNz_phase (n : Nat) : (s.withNz n).phase = s.phase := rfl
@[simp] theorem State.withNz_blkX (n : Nat) : (s.withNz n).blkX = s.blkX := rfl
@[simp] theorem State.withNz_blkY (n : Nat) : (s.withNz n).blkY = s.blkY := rfl
@[simp] theorem State.withNz_qt (n : Nat) : (s.withNz n).qt = s.qt := rfl
@[simp] theorem State.withNz_samp (n : Nat) : (s.withNz n).samp = s.samp := rfl
@[simp] theorem State.withNz_coef (n : Nat) : (s.withNz n).coef = s.coef := rfl
@[simp] theorem State.withNz_quo (n : Nat) : (s.withNz n).quo = s.quo := rfl
@[simp] theorem State.withNz_zz (n : Nat) : (s.withNz n).zz = s.zz := rfl
@[simp] theorem State.withNz_len (n : Nat) : (s.withNz n).len = s.len := rfl
@[simp] theorem State.withNz_pred (n : Nat) : (s.withNz n).pred = s.pred := rfl
@[simp] theorem State.withNz_nz (n : Nat) : (s.withNz n).nz = n := rfl
@[simp] theorem State.withNz_acc (n : Nat) : (s.withNz n).acc = s.acc := rfl
@[simp] theorem State.withNz_accn (n : Nat) : (s.withNz n).accn = s.accn := rfl
@[simp] theorem State.withNz_out (n : Nat) : (s.withNz n).out = s.out := rfl
@[simp] theorem State.withNz_outlen (n : Nat) : (s.withNz n).outlen = s.outlen := rfl
@[simp] theorem State.withNz_outCap (n : Nat) : (s.withNz n).outCap = s.outCap := rfl
@[simp] theorem State.withNz_img (n : Nat) : (s.withNz n).img = s.img := rfl
@[simp] theorem State.withNz_torn (n : Nat) : (s.withNz n).torn = s.torn := rfl
@[simp] theorem State.withNz_draws (n : Nat) : (s.withNz n).draws = s.draws := rfl
@[simp] theorem State.withNz_inputs (n : Nat) : (s.withNz n).inputs = s.inputs := rfl
@[simp] theorem State.withNz_rdata (n : Nat) : (s.withNz n).rdata = s.rdata := rfl
@[simp] theorem State.withNz_rdout (n : Nat) : (s.withNz n).rdout = s.rdout := rfl

/-! ## withPred -/

@[simp] theorem State.withPred_width (v : Int) : (s.withPred v).width = s.width := rfl
@[simp] theorem State.withPred_height (v : Int) : (s.withPred v).height = s.height := rfl
@[simp] theorem State.withPred_quality (v : Int) : (s.withPred v).quality = s.quality := rfl
@[simp] theorem State.withPred_status (v : Int) : (s.withPred v).status = s.status := rfl
@[simp] theorem State.withPred_errCode (v : Int) : (s.withPred v).errCode = s.errCode := rfl
@[simp] theorem State.withPred_errInfo (v : Int) : (s.withPred v).errInfo = s.errInfo := rfl
@[simp] theorem State.withPred_phase (v : Int) : (s.withPred v).phase = s.phase := rfl
@[simp] theorem State.withPred_blkX (v : Int) : (s.withPred v).blkX = s.blkX := rfl
@[simp] theorem State.withPred_blkY (v : Int) : (s.withPred v).blkY = s.blkY := rfl
@[simp] theorem State.withPred_qt (v : Int) : (s.withPred v).qt = s.qt := rfl
@[simp] theorem State.withPred_samp (v : Int) : (s.withPred v).samp = s.samp := rfl
@[simp] theorem State.withPred_coef (v : Int) : (s.withPred v).coef = s.coef := rfl
@[simp] theorem State.withPred_quo (v : Int) : (s.withPred v).quo = s.quo := rfl
@[simp] theorem State.withPred_zz (v : Int) : (s.withPred v).zz = s.zz := rfl
@[simp] theorem State.withPred_len (v : Int) : (s.withPred v).len = s.len := rfl
@[simp] theorem State.withPred_pred (v : Int) : (s.withPred v).pred = v := rfl
@[simp] theorem State.withPred_nz (v : Int) : (s.withPred v).nz = s.nz := rfl
@[simp] theorem State.withPred_acc (v : Int) : (s.withPred v).acc = s.acc := rfl
@[simp] theorem State.withPred_accn (v : Int) : (s.withPred v).accn = s.accn := rfl
@[simp] theorem State.withPred_out (v : Int) : (s.withPred v).out = s.out := rfl
@[simp] theorem State.withPred_outlen (v : Int) : (s.withPred v).outlen = s.outlen := rfl
@[simp] theorem State.withPred_outCap (v : Int) : (s.withPred v).outCap = s.outCap := rfl
@[simp] theorem State.withPred_img (v : Int) : (s.withPred v).img = s.img := rfl
@[simp] theorem State.withPred_torn (v : Int) : (s.withPred v).torn = s.torn := rfl
@[simp] theorem State.withPred_draws (v : Int) : (s.withPred v).draws = s.draws := rfl
@[simp] theorem State.withPred_inputs (v : Int) : (s.withPred v).inputs = s.inputs := rfl
@[simp] theorem State.withPred_rdata (v : Int) : (s.withPred v).rdata = s.rdata := rfl
@[simp] theorem State.withPred_rdout (v : Int) : (s.withPred v).rdout = s.rdout := rfl

/-! ## withInputs -/

@[simp] theorem State.withInputs_width (l : List Input) : (s.withInputs l).width = s.width := rfl
@[simp] theorem State.withInputs_height (l : List Input) : (s.withInputs l).height = s.height := rfl
@[simp] theorem State.withInputs_quality (l : List Input) : (s.withInputs l).quality = s.quality := rfl
@[simp] theorem State.withInputs_status (l : List Input) : (s.withInputs l).status = s.status := rfl
@[simp] theorem State.withInputs_errCode (l : List Input) : (s.withInputs l).errCode = s.errCode := rfl
@[simp] theorem State.withInputs_errInfo (l : List Input) : (s.withInputs l).errInfo = s.errInfo := rfl
@[simp] theorem State.withInputs_phase (l : List Input) : (s.withInputs l).phase = s.phase := rfl
@[simp] theorem State.withInputs_blkX (l : List Input) : (s.withInputs l).blkX = s.blkX := rfl
@[simp] theorem State.withInputs_blkY (l : List Input) : (s.withInputs l).blkY = s.blkY := rfl
@[simp] theorem State.withInputs_qt (l : List Input) : (s.withInputs l).qt = s.qt := rfl
@[simp] theorem State.withInputs_samp (l : List Input) : (s.withInputs l).samp = s.samp := rfl
@[simp] theorem State.withInputs_coef (l : List Input) : (s.withInputs l).coef = s.coef := rfl
@[simp] theorem State.withInputs_quo (l : List Input) : (s.withInputs l).quo = s.quo := rfl
@[simp] theorem State.withInputs_zz (l : List Input) : (s.withInputs l).zz = s.zz := rfl
@[simp] theorem State.withInputs_len (l : List Input) : (s.withInputs l).len = s.len := rfl
@[simp] theorem State.withInputs_pred (l : List Input) : (s.withInputs l).pred = s.pred := rfl
@[simp] theorem State.withInputs_nz (l : List Input) : (s.withInputs l).nz = s.nz := rfl
@[simp] theorem State.withInputs_acc (l : List Input) : (s.withInputs l).acc = s.acc := rfl
@[simp] theorem State.withInputs_accn (l : List Input) : (s.withInputs l).accn = s.accn := rfl
@[simp] theorem State.withInputs_out (l : List Input) : (s.withInputs l).out = s.out := rfl
@[simp] theorem State.withInputs_outlen (l : List Input) : (s.withInputs l).outlen = s.outlen := rfl
@[simp] theorem State.withInputs_outCap (l : List Input) : (s.withInputs l).outCap = s.outCap := rfl
@[simp] theorem State.withInputs_img (l : List Input) : (s.withInputs l).img = s.img := rfl
@[simp] theorem State.withInputs_torn (l : List Input) : (s.withInputs l).torn = s.torn := rfl
@[simp] theorem State.withInputs_draws (l : List Input) : (s.withInputs l).draws = s.draws := rfl
@[simp] theorem State.withInputs_inputs (l : List Input) : (s.withInputs l).inputs = l := rfl
@[simp] theorem State.withInputs_rdata (l : List Input) : (s.withInputs l).rdata = s.rdata := rfl
@[simp] theorem State.withInputs_rdout (l : List Input) : (s.withInputs l).rdout = s.rdout := rfl

/-! ## takeError -/

@[simp] theorem State.takeError_width (r : Raise) : (s.takeError r).width = s.width := rfl
@[simp] theorem State.takeError_height (r : Raise) : (s.takeError r).height = s.height := rfl
@[simp] theorem State.takeError_quality (r : Raise) : (s.takeError r).quality = s.quality := rfl
@[simp] theorem State.takeError_status (r : Raise) : (s.takeError r).status = .error := rfl
@[simp] theorem State.takeError_errCode (r : Raise) : (s.takeError r).errCode = r.code := rfl
@[simp] theorem State.takeError_errInfo (r : Raise) : (s.takeError r).errInfo = r.info := rfl
@[simp] theorem State.takeError_phase (r : Raise) : (s.takeError r).phase = .error := rfl
@[simp] theorem State.takeError_blkX (r : Raise) : (s.takeError r).blkX = s.blkX := rfl
@[simp] theorem State.takeError_blkY (r : Raise) : (s.takeError r).blkY = s.blkY := rfl
@[simp] theorem State.takeError_qt (r : Raise) : (s.takeError r).qt = s.qt := rfl
@[simp] theorem State.takeError_samp (r : Raise) : (s.takeError r).samp = s.samp := rfl
@[simp] theorem State.takeError_coef (r : Raise) : (s.takeError r).coef = s.coef := rfl
@[simp] theorem State.takeError_quo (r : Raise) : (s.takeError r).quo = s.quo := rfl
@[simp] theorem State.takeError_zz (r : Raise) : (s.takeError r).zz = s.zz := rfl
@[simp] theorem State.takeError_len (r : Raise) : (s.takeError r).len = s.len := rfl
@[simp] theorem State.takeError_pred (r : Raise) : (s.takeError r).pred = s.pred := rfl
@[simp] theorem State.takeError_nz (r : Raise) : (s.takeError r).nz = s.nz := rfl
@[simp] theorem State.takeError_acc (r : Raise) : (s.takeError r).acc = s.acc := rfl
@[simp] theorem State.takeError_accn (r : Raise) : (s.takeError r).accn = s.accn := rfl
@[simp] theorem State.takeError_out (r : Raise) : (s.takeError r).out = s.out := rfl
@[simp] theorem State.takeError_outlen (r : Raise) : (s.takeError r).outlen = s.outlen := rfl
@[simp] theorem State.takeError_outCap (r : Raise) : (s.takeError r).outCap = s.outCap := rfl
@[simp] theorem State.takeError_img (r : Raise) : (s.takeError r).img = s.img := rfl
@[simp] theorem State.takeError_torn (r : Raise) : (s.takeError r).torn = s.torn := rfl
@[simp] theorem State.takeError_draws (r : Raise) : (s.takeError r).draws = s.draws := rfl
@[simp] theorem State.takeError_inputs (r : Raise) : (s.takeError r).inputs = s.inputs := rfl
@[simp] theorem State.takeError_rdata (r : Raise) : (s.takeError r).rdata = s.rdata := rfl
@[simp] theorem State.takeError_rdout (r : Raise) : (s.takeError r).rdout = s.rdout := rfl

/-! ## seqDone -/

@[simp] theorem State.seqDone_width : (s.seqDone).width = s.width := rfl
@[simp] theorem State.seqDone_height : (s.seqDone).height = s.height := rfl
@[simp] theorem State.seqDone_quality : (s.seqDone).quality = s.quality := rfl
@[simp] theorem State.seqDone_status : (s.seqDone).status = .done := rfl
@[simp] theorem State.seqDone_errCode : (s.seqDone).errCode = s.errCode := rfl
@[simp] theorem State.seqDone_errInfo : (s.seqDone).errInfo = s.errInfo := rfl
@[simp] theorem State.seqDone_phase : (s.seqDone).phase = .done := rfl
@[simp] theorem State.seqDone_blkX : (s.seqDone).blkX = s.blkX := rfl
@[simp] theorem State.seqDone_blkY : (s.seqDone).blkY = s.blkY := rfl
@[simp] theorem State.seqDone_qt : (s.seqDone).qt = s.qt := rfl
@[simp] theorem State.seqDone_samp : (s.seqDone).samp = s.samp := rfl
@[simp] theorem State.seqDone_coef : (s.seqDone).coef = s.coef := rfl
@[simp] theorem State.seqDone_quo : (s.seqDone).quo = s.quo := rfl
@[simp] theorem State.seqDone_zz : (s.seqDone).zz = s.zz := rfl
@[simp] theorem State.seqDone_len : (s.seqDone).len = s.len := rfl
@[simp] theorem State.seqDone_pred : (s.seqDone).pred = s.pred := rfl
@[simp] theorem State.seqDone_nz : (s.seqDone).nz = s.nz := rfl
@[simp] theorem State.seqDone_acc : (s.seqDone).acc = s.acc := rfl
@[simp] theorem State.seqDone_accn : (s.seqDone).accn = s.accn := rfl
@[simp] theorem State.seqDone_out : (s.seqDone).out = s.out := rfl
@[simp] theorem State.seqDone_outlen : (s.seqDone).outlen = s.outlen := rfl
@[simp] theorem State.seqDone_outCap : (s.seqDone).outCap = s.outCap := rfl
@[simp] theorem State.seqDone_img : (s.seqDone).img = s.img := rfl
@[simp] theorem State.seqDone_torn : (s.seqDone).torn = s.torn := rfl
@[simp] theorem State.seqDone_draws : (s.seqDone).draws = s.draws := rfl
@[simp] theorem State.seqDone_inputs : (s.seqDone).inputs = s.inputs := rfl
@[simp] theorem State.seqDone_rdata : (s.seqDone).rdata = s.rdata := rfl
@[simp] theorem State.seqDone_rdout : (s.seqDone).rdout = s.rdout := rfl

/-! ## The reset input -/

@[simp] theorem State.hardwareReset_width : s.hardwareReset.width = State.reset.width := rfl
@[simp] theorem State.hardwareReset_height : s.hardwareReset.height = State.reset.height := rfl
@[simp] theorem State.hardwareReset_quality : s.hardwareReset.quality = State.reset.quality := rfl
@[simp] theorem State.hardwareReset_status : s.hardwareReset.status = State.reset.status := rfl
@[simp] theorem State.hardwareReset_errCode : s.hardwareReset.errCode = State.reset.errCode := rfl
@[simp] theorem State.hardwareReset_errInfo : s.hardwareReset.errInfo = State.reset.errInfo := rfl
@[simp] theorem State.hardwareReset_phase : s.hardwareReset.phase = State.reset.phase := rfl
@[simp] theorem State.hardwareReset_blkX : s.hardwareReset.blkX = State.reset.blkX := rfl
@[simp] theorem State.hardwareReset_blkY : s.hardwareReset.blkY = State.reset.blkY := rfl
@[simp] theorem State.hardwareReset_qt : s.hardwareReset.qt = State.reset.qt := rfl
@[simp] theorem State.hardwareReset_samp : s.hardwareReset.samp = State.reset.samp := rfl
@[simp] theorem State.hardwareReset_coef : s.hardwareReset.coef = State.reset.coef := rfl
@[simp] theorem State.hardwareReset_quo : s.hardwareReset.quo = State.reset.quo := rfl
@[simp] theorem State.hardwareReset_zz : s.hardwareReset.zz = State.reset.zz := rfl
@[simp] theorem State.hardwareReset_len : s.hardwareReset.len = State.reset.len := rfl
@[simp] theorem State.hardwareReset_pred : s.hardwareReset.pred = State.reset.pred := rfl
@[simp] theorem State.hardwareReset_nz : s.hardwareReset.nz = State.reset.nz := rfl
@[simp] theorem State.hardwareReset_acc : s.hardwareReset.acc = State.reset.acc := rfl
@[simp] theorem State.hardwareReset_accn : s.hardwareReset.accn = State.reset.accn := rfl
@[simp] theorem State.hardwareReset_out : s.hardwareReset.out = State.reset.out := rfl
@[simp] theorem State.hardwareReset_outlen : s.hardwareReset.outlen = State.reset.outlen := rfl
@[simp] theorem State.hardwareReset_outCap : s.hardwareReset.outCap = s.outCap := rfl
@[simp] theorem State.hardwareReset_img : s.hardwareReset.img = s.img := rfl
@[simp] theorem State.hardwareReset_torn : s.hardwareReset.torn = State.reset.torn := rfl
@[simp] theorem State.hardwareReset_draws : s.hardwareReset.draws = s.draws := rfl
@[simp] theorem State.hardwareReset_inputs : s.hardwareReset.inputs = s.inputs := rfl
@[simp] theorem State.hardwareReset_rdata : s.hardwareReset.rdata = s.rdata := rfl
@[simp] theorem State.hardwareReset_rdout : s.hardwareReset.rdout = s.rdout := rfl

end Sys2Proof.Machine
end

