-- ==== Sys2Proof/Laws/Ops.lean ====
section
/-! SUPPORT. One lemma per shared operation: everything it can do. An operation that emits changes OUT, OUTLEN, ACC and ACCN
only, and stops only in OUTPUT_OVERFLOW or at a symbol without a codeword. -/

namespace Sys2Proof.Machine

/-! ## finish -/

/-- The two ways an operation answers a next state: it completed, or it took an exception. -/
theorem finish_next {s0 t : State} {r : Res} (h : finish s0 r = .next t) :
    r = .ok t ∨ ∃ e, r = .error (.raise e) ∧ t = s0.takeError e := by
  cases r with
  | ok s => exact .inl (by simpa [finish] using h)
  | error e =>
    cases e with
    | raise e => exact .inr ⟨e, rfl, by simpa [finish] using h.symm⟩
    | fault f => simp [finish] at h

@[simp] theorem finish_ok (s0 s : State) : finish s0 (.ok s) = .next s := rfl
@[simp] theorem finish_raise (s0 : State) (e : Raise) : finish s0 (.error (.raise e)) = .next (s0.takeError e) := rfl
@[simp] theorem finish_fault (s0 : State) (f : Fault) : finish s0 (.error (.fault f)) = .fault f := rfl
@[simp] theorem Res.goto_ok (s : State) (p : Phase) : Res.goto (.ok s) p = .ok (s.goto p) := rfl
@[simp] theorem Res.goto_error (e : Stop) (p : Phase) : Res.goto (.error e) p = .error e := rfl

/-- A completed operation that moves PHASE last. -/
theorem Res.goto_eq_ok {r : Res} {p : Phase} {t : State} (h : r.goto p = .ok t) : ∃ u, r = .ok u ∧ t = u.goto p := by
  cases r with
  | ok s => exact ⟨s, rfl, by simpa using h.symm⟩
  | error e => simp at h

/-! ## What an emission can do -/

/-- `t` differs from `s` in the stream only: OUT, OUTLEN, ACC, ACCN. -/
def StreamOnly (s t : State) : Prop := t = { s with out := t.out, outlen := t.outlen, acc := t.acc, accn := t.accn }

theorem StreamOnly.refl (s : State) : StreamOnly s s := rfl

theorem StreamOnly.trans {s t u : State} (h : StreamOnly s t) (h' : StreamOnly t u) : StreamOnly s u := by
  unfold StreamOnly at *
  rw [h', h]

theorem StreamOnly.withBits (s : State) (a n : Nat) : StreamOnly s (s.withBits a n) := rfl

theorem StreamOnly.pushOut (s : State) (b : Byte) : StreamOnly s (s.pushOut b) := rfl

/-- A stop that an emission makes: OUTPUT_OVERFLOW, or a symbol without a codeword. -/
def EmitStop (e : Stop) : Prop := (∃ info, e = .raise ⟨.outputOverflow, info⟩) ∨ ∃ symbol, e = .fault (.noCodeword symbol)

/-- What an emission from `s` can answer: a state that differs in the stream only and has all the bytes below OUTLEN as they
were, or one of the two stops. -/
def Emission (s : State) : Res → Prop
  | .ok t => StreamOnly s t ∧ s.outlen ≤ t.outlen ∧ ∀ a, a < s.outlen → outByte t a = outByte s a
  | .error e => EmitStop e

theorem Emission.ok_refl (s : State) : Emission s (.ok s) := ⟨rfl, Nat.le_refl _, fun _ _ => rfl⟩

theorem Emission.withBits (s : State) (a n : Nat) : Emission s (.ok (s.withBits a n)) := ⟨rfl, Nat.le_refl _, fun _ _ => rfl⟩

/-- One emission after another is an emission. -/
theorem Emission.bind {s : State} {r : Res} {f : State → Res} (h : Emission s r) (hf : ∀ t, Emission t (f t)) :
    Emission s (r.bind f) := by
  cases r with
  | error e => exact h
  | ok t =>
    obtain ⟨h1, h2, h3⟩ := h
    have ht := hf t
    show Emission s (f t)
    cases hr : f t with
    | error e => rw [hr] at ht; exact ht
    | ok u =>
      rw [hr] at ht
      obtain ⟨k1, k2, k3⟩ := ht
      exact ⟨h1.trans k1, h2.trans k2, fun a ha => (k3 a (by omega)).trans (h3 a ha)⟩

/-! ## OUT -/

theorem append_ok {s : State} (h : s.outFull = false) (b : Byte) : append b s = .ok (s.pushOut b) := by
  simp [append, h]

theorem append_full {s : State} (h : s.outFull = true) (b : Byte) :
    append b s = .error (.raise ⟨.outputOverflow, BitVec.ofNat 32 s.outlen⟩) := by
  simp [append, h]

theorem append_emission (b : Byte) (s : State) : Emission s (append b s) := by
  unfold append
  split
  · exact .inl ⟨_, rfl⟩
  · exact ⟨rfl, Nat.le_succ _, fun a ha => outByte_pushOut_other s b a (by omega)⟩

theorem emit_emission (bytes : List Byte) (s : State) : Emission s (emit bytes s) := by
  induction bytes generalizing s with
  | nil => exact Emission.ok_refl s
  | cons b bytes ih => exact (append_emission b s).bind ih

/-- With room for all of them, the bytes go to OUT at OUTLEN and nothing else changes. -/
theorem emit_room (bytes : List Byte) (s : State) (h : ∀ cap, s.outCap = some cap → s.outlen + bytes.length ≤ cap) :
    emit bytes s = .ok { s with out := s.out.writeAll s.outlen bytes, outlen := s.outlen + bytes.length } := by
  induction bytes generalizing s with
  | nil => rfl
  | cons b bytes ih =>
    have hf : s.outFull = false := by
      unfold State.outFull
      split
      · rfl
      · rename_i cap hc
        have := h cap hc
        simp only [List.length_cons] at this
        simp; omega
    simp only [emit, append_ok hf, Except.bind]
    rw [ih _ (by intro cap hc; have := h cap hc; simp only [List.length_cons] at this; simp [State.pushOut]; omega)]
    simp [State.pushOut, Memory.writeAll, Nat.add_assoc, Nat.add_comm 1]

/-- Without room for all of them, OUTPUT_OVERFLOW is raised with the OUTLEN of the failing append: OUT_CAP. -/
theorem emit_full (bytes : List Byte) (s : State) (cap : Nat) (hc : s.outCap = some cap) (hw : s.outlen ≤ cap)
    (h : cap < s.outlen + bytes.length) :
    emit bytes s = .error (.raise ⟨.outputOverflow, BitVec.ofNat 32 cap⟩) := by
  induction bytes generalizing s with
  | nil => simp at h; omega
  | cons b bytes ih =>
    simp only [List.length_cons] at h
    by_cases he : s.outlen = cap
    · have hf : s.outFull = true := by simp [State.outFull, hc, he]
      simp [emit, append_full hf, Except.bind, he]
    · have hf : s.outFull = false := by simp [State.outFull, hc]; omega
      simp only [emit, append_ok hf, Except.bind]
      exact ih _ (by simpa using hc) (by simp; omega) (by simp; omega)

theorem emitEcs_emission (b : Byte) (s : State) : Emission s (emitEcs b s) := emit_emission _ _

/-! ## The bit writer -/

theorem drain_emission (fuel : Nat) (s : State) : Emission s (drain fuel s) := by
  induction fuel generalizing s with
  | zero => exact Emission.ok_refl s
  | succ fuel ih =>
    unfold drain
    split
    · exact Emission.bind (s := s) (r := (.ok (s.withBits _ _) : Res).bind (emitEcs _))
        ((Emission.withBits s _ _).bind (emitEcs_emission _)) ih
    · exact Emission.ok_refl s

theorem bwWrite_emission (bits nbits : Nat) (s : State) : Emission s (bwWrite bits nbits s) :=
  (Emission.withBits s _ _).bind (drain_emission _)

/-! ## Coded items -/

theorem writeCode_emission (table : List (Nat × Codeword)) (symbol : Nat) (s : State) :
    Emission s (writeCode table symbol s) := by
  unfold writeCode
  split
  · exact .inr ⟨symbol, rfl⟩
  · exact bwWrite_emission _ _ s

theorem writeMag_emission (mag c : Nat) (s : State) : Emission s (writeMag mag c s) := by
  unfold writeMag
  split
  · exact bwWrite_emission _ _ s
  · exact Emission.ok_refl s

theorem writeDc_emission (category mag : Nat) (s : State) : Emission s (writeDc category mag s) :=
  (writeCode_emission _ _ s).bind fun t => writeMag_emission mag category t

theorem writeAc_emission (symbol mag : Nat) (s : State) : Emission s (writeAc symbol mag s) :=
  (writeCode_emission _ _ s).bind fun t => writeMag_emission mag (acSize symbol) t

/-- A finished emission: the stream only, or the error entry from the state before. -/
theorem Emission.finish {s t : State} {r : Res} (h : Emission s r) (hn : Machine.finish s r = .next t) :
    (StreamOnly s t ∧ s.outlen ≤ t.outlen ∧ ∀ a, a < s.outlen → outByte t a = outByte s a) ∨
      ∃ info, t = s.takeError ⟨.outputOverflow, info⟩ := by
  rcases finish_next hn with rfl | ⟨e, rfl, rfl⟩
  · exact .inl h
  · rcases h with ⟨info, he⟩ | ⟨symbol, he⟩
    · cases he; exact .inr ⟨info, rfl⟩
    · cases he

/-! ## Bits in the accumulator -/

/-- After `drain` with enough fuel at most 7 bits are buffered, and no more. -/
theorem drain_bits (fuel : Nat) (s t : State) (hf : s.accn / 8 ≤ fuel) (ha : s.acc < 2 ^ s.accn) (h : drain fuel s = .ok t) :
    t.accn ≤ 7 ∧ t.acc < 2 ^ t.accn := by
  induction fuel generalizing s with
  | zero => simp only [drain, Except.ok.injEq] at h; subst h; exact ⟨by omega, ha⟩
  | succ fuel ih =>
    unfold drain at h
    split at h
    · rename_i h8
      generalize hu : emitEcs _ _ = r at h
      cases r with
      | error e => simp [Except.bind] at h
      | ok u =>
        have hk : u.acc = s.acc % 2 ^ (s.accn - 8) ∧ u.accn = s.accn - 8 := by
          have hb : ∀ (bytes : List Byte) (v w : State), emit bytes v = .ok w → w.acc = v.acc ∧ w.accn = v.accn := by
            intro bytes
            induction bytes with
            | nil => intro v w hvw; simp only [emit, Except.ok.injEq] at hvw; subst hvw; exact ⟨rfl, rfl⟩
            | cons b bytes ihb =>
              intro v w hvw
              simp only [emit, append] at hvw
              split at hvw
              · simp [Except.bind] at hvw
              · exact ihb (v.pushOut b) w hvw
          simpa using hb _ _ _ hu
        exact ih u (by rw [hk.2]; omega) (by rw [hk.1, hk.2]; exact Nat.mod_lt _ (by positivity)) h
    · simp only [Except.ok.injEq] at h
      subst h
      exact ⟨by omega, ha⟩

/-- BW.WRITE leaves at most 7 bits buffered, and no more, if it started so. -/
theorem bwWrite_bits (bits nbits : Nat) (s t : State) (ha : s.acc < 2 ^ s.accn) (h : bwWrite bits nbits s = .ok t) :
    t.accn ≤ 7 ∧ t.acc < 2 ^ t.accn := by
  refine drain_bits _ (s.withBits _ _) t (Nat.le_refl _) ?_ h
  simp only [State.withBits_acc, State.withBits_accn, Nat.pow_add]
  have h1 : bits % 2 ^ nbits < 2 ^ nbits := Nat.mod_lt _ (by positivity)
  nlinarith [Nat.mul_le_mul_right (2 ^ nbits) (Nat.succ_le_of_lt ha)]

end Sys2Proof.Machine
end

