-- ==== Sys2Proof/Tests/Slice0.lean ====
section
/-! SUPPORT. Tests. Expected results come from the spec: the encoding tables of 30_encoding.md and the vectors T<n> of
95_test_vectors.md. `witness_<statement>` shows a concrete state and operands that meet the hypotheses of a statement. -/

namespace Sys2Proof.Tests

set_option Elab.async false

open Sys2Proof.Machine Sys2Proof.Spec

/-! ## Helpers -/

/-- A bit string written out. -/
def bits (l : List Nat) : List Bool := l.map fun d => decide (d = 1)

/-- Does a decoder's answer stand for this operation? -/
def reads (r : Except DecodeError Instr) (i : Instr) : Bool :=
  match r with
  | .ok j => decide (j = i)
  | .error _ => false

/-- Is a code refused, and for this reason? -/
def rejects (r : Except DecodeError Instr) (why : DecodeError) : Bool :=
  match r with
  | .ok _ => false
  | .error e => decide (e = why)

/-- Every written-out code decodes to its operation, and is that operation's encoding. -/
def decodesTo (format : List Bool → SubCode) (rows : List (List Nat × Instr)) : Bool :=
  rows.all fun row => reads (decode (.sub (format (bits row.1)))) row.2 &&
    decide (encode row.2 = .sub (format (bits row.1)))

/-- The answer is a next state with this property. -/
def nextIs (r : Result) (p : State → Bool) : Bool :=
  match r with
  | .next t => p t
  | _ => false

/-- The answer is this fault. -/
def faultIs (r : Result) (f : Fault) : Bool :=
  match r with
  | .fault g => decide (g = f)
  | _ => false

/-- The answer is this refusal. -/
def refusalIs (r : Result) (f : Refusal) : Bool :=
  match r with
  | .refused g => decide (g = f)
  | _ => false

/-- One operation after another. -/
def andThen (r : Result) (f : State → Result) : Result :=
  match r with
  | .next t => f t
  | _ => r

/-- The state after a raise. -/
def raised (r : Result) (code : ErrCode) (info : BitVec 32) : Bool :=
  nextIs r fun t => decide (t.status = .error ∧ t.phase = .error ∧ t.errCode = code ∧ t.errInfo = info)

/-- Reset with PHASE and the STATUS that goes with it. -/
def atPhase (p : Phase) : State := { State.reset with phase := p, status := statusOfPhase p }

/-- Reset with the three parameters. -/
def withParams (w h q : BitVec 16) : State := { State.reset with width := w, height := h, quality := q }

/-- Reset with a finite output buffer. -/
def withCap (cap : Nat) : State := { State.reset with outCap := some cap }

/-- A zigzag vector from its nonzero entries. -/
def entries (l : List (Nat × Int)) : Vector Int 64 := tabulate fun k => (l.lookup k.val).getD 0

/-- What ENT.DC, ENT.AC, ENT.EOB find. -/
def entropyState (zz : Vector Int 64) (len : Fin 65) (pred : Int) : State :=
  { State.reset with zz := zz, len := len, pred := pred }

/-- The stream: the bytes of OUT, ACC, ACCN. -/
def streamIs (t : State) (bytes : List Byte) (acc accn : Nat) : Bool :=
  decide (outBytes t = bytes ∧ t.acc = acc ∧ t.accn = accn)

/-- The bytes an operation appends from OUTLEN = 0, and the PHASE it leaves. -/
def appends (r : Result) (bytes : List Byte) (p : Phase) : Bool :=
  nextIs r fun t => decide (outBytes t = bytes ∧ t.phase = p)

/-- A table agrees with the canonical code of its counts and symbols. -/
def canonicalOk (table : List (Nat × Codeword)) (counts syms : List Nat) : Bool :=
  decide (table.length = syms.length) && table.all fun row => decide ((Rom.canonical counts syms).lookup row.1 = some row.2)

/-! ## Well-formedness -/

theorem test_wellFormed_bwWrite_none : (Instr.bwWrite 5 0).wellFormed = false := by decide
theorem test_wellFormed_bwWrite_long : (Instr.bwWrite 5 17).wellFormed = false := by decide
theorem test_decode_refuses_bwWrite :
    (rejects (decode (.sub (.bwWrite 5 0))) .badNbits && rejects (decode (.sub (.bwWrite 5 17))) .badNbits) = true := by
  decide
theorem test_wellFormed_bwWrite : (Instr.bwWrite 5 1).wellFormed = true ∧ (Instr.bwWrite 5 16).wellFormed = true := by decide

/-! ## Decoding -/

/-- HOST (R111): data bits 31..1 are ignored. -/
theorem test_decode_host : (reads (decode (.host 0x00 0x00000001)) (.encode 0) &&
    reads (decode (.host 0x00 0xFFFFFFFF)) (.encode 0x7FFFFFFF) && rejects (decode (.host 0x00 0xFFFFFFFE)) .notACommand &&
    rejects (decode (.host 0x08 0x00000001)) .notACommand) = true := by decide

/-- UOP (R112): the nineteen PHASE codes. -/
theorem test_decode_uop : ([(0b00001, .seqCheck), (0b00010, .qtbBuild), (0b00011, .hdrSoi), (0b00100, .hdrApp0),
    (0b00101, .hdrDqt), (0b00110, .hdrSof0), (0b00111, .hdrDhtDc), (0b01000, .hdrDhtAc), (0b01001, .hdrSos),
    (0b01010, .blkFetch), (0b01011, .fdct), (0b01100, .quant), (0b01101, .zigzag), (0b01110, .entDc), (0b01111, .entAc),
    (0b10000, .entEob), (0b10001, .blkNext), (0b10010, .bwFinalize), (0b10011, .hdrEoi)].all
      fun row : BitVec 5 × Instr => reads (decode (.uop row.1)) row.2 && decide (encode row.2 = .uop row.1)) = true := by
  decide

/-- UOP: codes 0, 20, 21 are quiescent, 22 to 31 reserved (R112, R130). -/
theorem test_decode_uop_none : ([0, 20, 21].all (fun c : BitVec 5 => rejects (decode (.uop c)) .quiescentPhase) &&
    [22, 23, 24, 25, 26, 27, 28, 29, 30, 31].all
      fun c : BitVec 5 => rejects (decode (.uop c)) .reservedPhase) = true := by decide

/-- MARKER and STUFF (R113, R128); any other marker word is refused (R131). -/
theorem test_decode_marker : ([(0xFFD8, .markerSoi), (0xFFE0, .markerApp0), (0xFFDB, .markerDqt), (0xFFC0, .markerSof0),
    (0xFFC4, .markerDht), (0xFFDA, .markerSos), (0xFFD9, .markerEoi)].all
      (fun row : BitVec 16 × Instr => reads (decode (.sub (.marker row.1))) row.2 &&
        decide (encode row.2 = .sub (.marker row.1))) &&
    reads (decode (.sub (.stuff 0xFF00))) .stuff && decide (encode .stuff = .sub (.stuff 0xFF00)) &&
    rejects (decode (.sub (.marker 0xFF00))) .unknownMarker && rejects (decode (.sub (.stuff 0xFFD8))) .notStuff) = true := by
  decide

/-- CALL: by name (R110). -/
theorem test_decode_call : (reads (decode (.sub .seqDone)) .seqDone && reads (decode (.sub (.bwWrite 0x1F5 4))) (.bwWrite 0x1F5 4) &&
    reads (decode (.sub (.outAppend 0xFC))) (.outAppend 0xFC)) = true := by decide

/-- All ones is no codeword (R121); a missing magnitude bit and an extra bit are refused. -/
theorem test_decode_huff_refused : (rejects (decode (.sub (.huffDc (bits [1, 1, 1, 1, 1, 1, 1, 1, 1])))) .noCodeword &&
    rejects (decode (.sub (.huffAc (bits [1, 1, 1, 1, 1, 1, 1, 1, 1, 1, 1, 1, 1, 1, 1, 1])))) .noCodeword &&
    rejects (decode (.sub (.huffDc (bits [1, 0, 0, 1, 0])))) .magTruncated &&
    rejects (decode (.sub (.huffAc (bits [1, 0, 1, 0, 0])))) .trailingBits) = true := by decide +kernel

/-- HUFF_DC: the twelve codewords as R122 lists them, each with magnitude bits (R126). -/
theorem test_decode_huff_dc : decodesTo .huffDc [
  ([0, 0], .dcCat0), ([0, 1, 0, 1], .dcCat1 1), ([0, 1, 1, 0, 1], .dcCat2 1), ([1, 0, 0, 0, 0, 1], .dcCat3 1),
  ([1, 0, 1, 1, 0, 0, 1], .dcCat4 9), ([1, 1, 0, 1, 1, 0, 0, 1], .dcCat5 25),
  ([1, 1, 1, 0, 0, 1, 1, 0, 0, 1], .dcCat6 25), ([1, 1, 1, 1, 0, 0, 0, 1, 1, 0, 0, 1], .dcCat7 25),
  ([1, 1, 1, 1, 1, 0, 1, 0, 0, 1, 1, 0, 0, 1], .dcCat8 153),
  ([1, 1, 1, 1, 1, 1, 0, 1, 1, 0, 0, 1, 1, 0, 0, 1], .dcCat9 409),
  ([1, 1, 1, 1, 1, 1, 1, 0, 0, 1, 1, 0, 0, 1, 1, 0, 0, 1], .dcCat10 409),
  ([1, 1, 1, 1, 1, 1, 1, 1, 0, 0, 0, 1, 1, 0, 0, 1, 1, 0, 0, 1], .dcCat11 409)] = true := by decide +kernel

/-- HUFF_AC, run 0: the codewords as R124 lists them, each with magnitude bits (R126). -/
theorem test_decode_huff_ac_run0 : decodesTo .huffAc [
  ([1, 0, 1, 0], .acEob), ([0, 0, 1], .acR0S1 1), ([0, 1, 0, 1], .acR0S2 1), ([1, 0, 0, 0, 0, 1], .acR0S3 1),
  ([1, 0, 1, 1, 1, 0, 0, 1], .acR0S4 9), ([1, 1, 0, 1, 0, 1, 1, 0, 0, 1], .acR0S5 25),
  ([1, 1, 1, 1, 0, 0, 0, 0, 1, 1, 0, 0, 1], .acR0S6 25), ([1, 1, 1, 1, 1, 0, 0, 0, 0, 0, 1, 1, 0, 0, 1], .acR0S7 25),
  ([1, 1, 1, 1, 1, 1, 0, 1, 1, 0, 1, 0, 0, 1, 1, 0, 0, 1], .acR0S8 153),
  ([1, 1, 1, 1, 1, 1, 1, 1, 1, 0, 0, 0, 0, 0, 1, 0, 1, 1, 0, 0, 1, 1, 0, 0, 1], .acR0S9 409),
  ([1, 1, 1, 1, 1, 1, 1, 1, 1, 0, 0, 0, 0, 0, 1, 1, 0, 1, 1, 0, 0, 1, 1, 0, 0, 1], .acR0S10 409)] = true := by decide +kernel

/-- HUFF_AC, run 1: the codewords as R124 lists them, each with magnitude bits (R126). -/
theorem test_decode_huff_ac_run1 : decodesTo .huffAc [
  ([1, 1, 0, 0, 1], .acR1S1 1), ([1, 1, 0, 1, 1, 0, 1], .acR1S2 1), ([1, 1, 1, 1, 0, 0, 1, 0, 0, 1], .acR1S3 1),
  ([1, 1, 1, 1, 1, 0, 1, 1, 0, 1, 0, 0, 1], .acR1S4 9),
  ([1, 1, 1, 1, 1, 1, 1, 0, 1, 1, 0, 1, 1, 0, 0, 1], .acR1S5 25),
  ([1, 1, 1, 1, 1, 1, 1, 1, 1, 0, 0, 0, 0, 1, 0, 0, 0, 1, 1, 0, 0, 1], .acR1S6 25),
  ([1, 1, 1, 1, 1, 1, 1, 1, 1, 0, 0, 0, 0, 1, 0, 1, 0, 0, 1, 1, 0, 0, 1], .acR1S7 25),
  ([1, 1, 1, 1, 1, 1, 1, 1, 1, 0, 0, 0, 0, 1, 1, 0, 1, 0, 0, 1, 1, 0, 0, 1], .acR1S8 153),
  ([1, 1, 1, 1, 1, 1, 1, 1, 1, 0, 0, 0, 0, 1, 1, 1, 1, 1, 0, 0, 1, 1, 0, 0, 1], .acR1S9 409),
  ([1, 1, 1, 1, 1, 1, 1, 1, 1, 0, 0, 0, 1, 0, 0, 0, 0, 1, 1, 0, 0, 1, 1, 0, 0, 1], .acR1S10 409)] = true := by decide +kernel

/-- HUFF_AC, run 2: the codewords as R124 lists them, each with magnitude bits (R126). -/
theorem test_decode_huff_ac_run2 : decodesTo .huffAc [
  ([1, 1, 1, 0, 0, 1], .acR2S1 1), ([1, 1, 1, 1, 1, 0, 0, 1, 0, 1], .acR2S2 1),
  ([1, 1, 1, 1, 1, 1, 0, 1, 1, 1, 0, 0, 1], .acR2S3 1),
  ([1, 1, 1, 1, 1, 1, 1, 1, 0, 1, 0, 0, 1, 0, 0, 1], .acR2S4 9),
  ([1, 1, 1, 1, 1, 1, 1, 1, 1, 0, 0, 0, 1, 0, 0, 1, 1, 1, 0, 0, 1], .acR2S5 25),
  ([1, 1, 1, 1, 1, 1, 1, 1, 1, 0, 0, 0, 1, 0, 1, 0, 0, 1, 1, 0, 0, 1], .acR2S6 25),
  ([1, 1, 1, 1, 1, 1, 1, 1, 1, 0, 0, 0, 1, 0, 1, 1, 0, 0, 1, 1, 0, 0, 1], .acR2S7 25),
  ([1, 1, 1, 1, 1, 1, 1, 1, 1, 0, 0, 0, 1, 1, 0, 0, 1, 0, 0, 1, 1, 0, 0, 1], .acR2S8 153),
  ([1, 1, 1, 1, 1, 1, 1, 1, 1, 0, 0, 0, 1, 1, 0, 1, 1, 1, 0, 0, 1, 1, 0, 0, 1], .acR2S9 409),
  ([1, 1, 1, 1, 1, 1, 1, 1, 1, 0, 0, 0, 1, 1, 1, 0, 0, 1, 1, 0, 0, 1, 1, 0, 0, 1], .acR2S10 409)] = true := by decide +kernel

/-- HUFF_AC, run 3: the codewords as R124 lists them, each with magnitude bits (R126). -/
theorem test_decode_huff_ac_run3 : decodesTo .huffAc [
  ([1, 1, 1, 0, 1, 0, 1], .acR3S1 1), ([1, 1, 1, 1, 1, 0, 1, 1, 1, 0, 1], .acR3S2 1),
  ([1, 1, 1, 1, 1, 1, 1, 1, 0, 1, 0, 1, 0, 0, 1], .acR3S3 1),
  ([1, 1, 1, 1, 1, 1, 1, 1, 1, 0, 0, 0, 1, 1, 1, 1, 1, 0, 0, 1], .acR3S4 9),
  ([1, 1, 1, 1, 1, 1, 1, 1, 1, 0, 0, 1, 0, 0, 0, 0, 1, 1, 0, 0, 1], .acR3S5 25),
  ([1, 1, 1, 1, 1, 1, 1, 1, 1, 0, 0, 1, 0, 0, 0, 1, 0, 1, 1, 0, 0, 1], .acR3S6 25),
  ([1, 1, 1, 1, 1, 1, 1, 1, 1, 0, 0, 1, 0, 0, 1, 0, 0, 0, 1, 1, 0, 0, 1], .acR3S7 25),
  ([1, 1, 1, 1, 1, 1, 1, 1, 1, 0, 0, 1, 0, 0, 1, 1, 1, 0, 0, 1, 1, 0, 0, 1], .acR3S8 153),
  ([1, 1, 1, 1, 1, 1, 1, 1, 1, 0, 0, 1, 0, 1, 0, 0, 1, 1, 0, 0, 1, 1, 0, 0, 1], .acR3S9 409),
  ([1, 1, 1, 1, 1, 1, 1, 1, 1, 0, 0, 1, 0, 1, 0, 1, 0, 1, 1, 0, 0, 1, 1, 0, 0, 1], .acR3S10 409)] = true := by decide +kernel

/-- HUFF_AC, run 4: the codewords as R124 lists them, each with magnitude bits (R126). -/
theorem test_decode_huff_ac_run4 : decodesTo .huffAc [
  ([1, 1, 1, 0, 1, 1, 1], .acR4S1 1), ([1, 1, 1, 1, 1, 1, 1, 0, 0, 0, 0, 1], .acR4S2 1),
  ([1, 1, 1, 1, 1, 1, 1, 1, 1, 0, 0, 1, 0, 1, 1, 0, 0, 0, 1], .acR4S3 1),
  ([1, 1, 1, 1, 1, 1, 1, 1, 1, 0, 0, 1, 0, 1, 1, 1, 1, 0, 0, 1], .acR4S4 9),
  ([1, 1, 1, 1, 1, 1, 1, 1, 1, 0, 0, 1, 1, 0, 0, 0, 1, 1, 0, 0, 1], .acR4S5 25),
  ([1, 1, 1, 1, 1, 1, 1, 1, 1, 0, 0, 1, 1, 0, 0, 1, 0, 1, 1, 0, 0, 1], .acR4S6 25),
  ([1, 1, 1, 1, 1, 1, 1, 1, 1, 0, 0, 1, 1, 0, 1, 0, 0, 0, 1, 1, 0, 0, 1], .acR4S7 25),
  ([1, 1, 1, 1, 1, 1, 1, 1, 1, 0, 0, 1, 1, 0, 1, 1, 1, 0, 0, 1, 1, 0, 0, 1], .acR4S8 153),
  ([1, 1, 1, 1, 1, 1, 1, 1, 1, 0, 0, 1, 1, 1, 0, 0, 1, 1, 0, 0, 1, 1, 0, 0, 1], .acR4S9 409),
  ([1, 1, 1, 1, 1, 1, 1, 1, 1, 0, 0, 1, 1, 1, 0, 1, 0, 1, 1, 0, 0, 1, 1, 0, 0, 1], .acR4S10 409)] = true := by decide +kernel

/-- HUFF_AC, run 5: the codewords as R124 lists them, each with magnitude bits (R126). -/
theorem test_decode_huff_ac_run5 : decodesTo .huffAc [
  ([1, 1, 1, 1, 0, 1, 0, 1], .acR5S1 1), ([1, 1, 1, 1, 1, 1, 1, 0, 1, 1, 1, 0, 1], .acR5S2 1),
  ([1, 1, 1, 1, 1, 1, 1, 1, 1, 0, 0, 1, 1, 1, 1, 0, 0, 0, 1], .acR5S3 1),
  ([1, 1, 1, 1, 1, 1, 1, 1, 1, 0, 0, 1, 1, 1, 1, 1, 1, 0, 0, 1], .acR5S4 9),
  ([1, 1, 1, 1, 1, 1, 1, 1, 1, 0, 1, 0, 0, 0, 0, 0, 1, 1, 0, 0, 1], .acR5S5 25),
  ([1, 1, 1, 1, 1, 1, 1, 1, 1, 0, 1, 0, 0, 0, 0, 1, 0, 1, 1, 0, 0, 1], .acR5S6 25),
  ([1, 1, 1, 1, 1, 1, 1, 1, 1, 0, 1, 0, 0, 0, 1, 0, 0, 0, 1, 1, 0, 0, 1], .acR5S7 25),
  ([1, 1, 1, 1, 1, 1, 1, 1, 1, 0, 1, 0, 0, 0, 1, 1, 1, 0, 0, 1, 1, 0, 0, 1], .acR5S8 153),
  ([1, 1, 1, 1, 1, 1, 1, 1, 1, 0, 1, 0, 0, 1, 0, 0, 1, 1, 0, 0, 1, 1, 0, 0, 1], .acR5S9 409),
  ([1, 1, 1, 1, 1, 1, 1, 1, 1, 0, 1, 0, 0, 1, 0, 1, 0, 1, 1, 0, 0, 1, 1, 0, 0, 1], .acR5S10 409)] = true := by decide +kernel

/-- HUFF_AC, run 6: the codewords as R124 lists them, each with magnitude bits (R126). -/
theorem test_decode_huff_ac_run6 : decodesTo .huffAc [
  ([1, 1, 1, 1, 0, 1, 1, 1], .acR6S1 1), ([1, 1, 1, 1, 1, 1, 1, 1, 0, 1, 1, 0, 0, 1], .acR6S2 1),
  ([1, 1, 1, 1, 1, 1, 1, 1, 1, 0, 1, 0, 0, 1, 1, 0, 0, 0, 1], .acR6S3 1),
  ([1, 1, 1, 1, 1, 1, 1, 1, 1, 0, 1, 0, 0, 1, 1, 1, 1, 0, 0, 1], .acR6S4 9),
  ([1, 1, 1, 1, 1, 1, 1, 1, 1, 0, 1, 0, 1, 0, 0, 0, 1, 1, 0, 0, 1], .acR6S5 25),
  ([1, 1, 1, 1, 1, 1, 1, 1, 1, 0, 1, 0, 1, 0, 0, 1, 0, 1, 1, 0, 0, 1], .acR6S6 25),
  ([1, 1, 1, 1, 1, 1, 1, 1, 1, 0, 1, 0, 1, 0, 1, 0, 0, 0, 1, 1, 0, 0, 1], .acR6S7 25),
  ([1, 1, 1, 1, 1, 1, 1, 1, 1, 0, 1, 0, 1, 0, 1, 1, 1, 0, 0, 1, 1, 0, 0, 1], .acR6S8 153),
  ([1, 1, 1, 1, 1, 1, 1, 1, 1, 0, 1, 0, 1, 1, 0, 0, 1, 1, 0, 0, 1, 1, 0, 0, 1], .acR6S9 409),
  ([1, 1, 1, 1, 1, 1, 1, 1, 1, 0, 1, 0, 1, 1, 0, 1, 0, 1, 1, 0, 0, 1, 1, 0, 0, 1], .acR6S10 409)] = true := by decide +kernel

/-- HUFF_AC, run 7: the codewords as R124 lists them, each with magnitude bits (R126). -/
theorem test_decode_huff_ac_run7 : decodesTo .huffAc [
  ([1, 1, 1, 1, 1, 0, 1, 0, 1], .acR7S1 1), ([1, 1, 1, 1, 1, 1, 1, 1, 0, 1, 1, 1, 0, 1], .acR7S2 1),
  ([1, 1, 1, 1, 1, 1, 1, 1, 1, 0, 1, 0, 1, 1, 1, 0, 0, 0, 1], .acR7S3 1),
  ([1, 1, 1, 1, 1, 1, 1, 1, 1, 0, 1, 0, 1, 1, 1, 1, 1, 0, 0, 1], .acR7S4 9),
  ([1, 1, 1, 1, 1, 1, 1, 1, 1, 0, 1, 1, 0, 0, 0, 0, 1, 1, 0, 0, 1], .acR7S5 25),
  ([1, 1, 1, 1, 1, 1, 1, 1, 1, 0, 1, 1, 0, 0, 0, 1, 0, 1, 1, 0, 0, 1], .acR7S6 25),
  ([1, 1, 1, 1, 1, 1, 1, 1, 1, 0, 1, 1, 0, 0, 1, 0, 0, 0, 1, 1, 0, 0, 1], .acR7S7 25),
  ([1, 1, 1, 1, 1, 1, 1, 1, 1, 0, 1, 1, 0, 0, 1, 1, 1, 0, 0, 1, 1, 0, 0, 1], .acR7S8 153),
  ([1, 1, 1, 1, 1, 1, 1, 1, 1, 0, 1, 1, 0, 1, 0, 0, 1, 1, 0, 0, 1, 1, 0, 0, 1], .acR7S9 409),
  ([1, 1, 1, 1, 1, 1, 1, 1, 1, 0, 1, 1, 0, 1, 0, 1, 0, 1, 1, 0, 0, 1, 1, 0, 0, 1], .acR7S10 409)] = true := by decide +kernel

/-- HUFF_AC, run 8: the codewords as R124 lists them, each with magnitude bits (R126). -/
theorem test_decode_huff_ac_run8 : decodesTo .huffAc [
  ([1, 1, 1, 1, 1, 1, 0, 0, 0, 1], .acR8S1 1), ([1, 1, 1, 1, 1, 1, 1, 1, 1, 0, 0, 0, 0, 0, 0, 0, 1], .acR8S2 1),
  ([1, 1, 1, 1, 1, 1, 1, 1, 1, 0, 1, 1, 0, 1, 1, 0, 0, 0, 1], .acR8S3 1),
  ([1, 1, 1, 1, 1, 1, 1, 1, 1, 0, 1, 1, 0, 1, 1, 1, 1, 0, 0, 1], .acR8S4 9),
  ([1, 1, 1, 1, 1, 1, 1, 1, 1, 0, 1, 1, 1, 0, 0, 0, 1, 1, 0, 0, 1], .acR8S5 25),
  ([1, 1, 1, 1, 1, 1, 1, 1, 1, 0, 1, 1, 1, 0, 0, 1, 0, 1, 1, 0, 0, 1], .acR8S6 25),
  ([1, 1, 1, 1, 1, 1, 1, 1, 1, 0, 1, 1, 1, 0, 1, 0, 0, 0, 1, 1, 0, 0, 1], .acR8S7 25),
  ([1, 1, 1, 1, 1, 1, 1, 1, 1, 0, 1, 1, 1, 0, 1, 1, 1, 0, 0, 1, 1, 0, 0, 1], .acR8S8 153),
  ([1, 1, 1, 1, 1, 1, 1, 1, 1, 0, 1, 1, 1, 1, 0, 0, 1, 1, 0, 0, 1, 1, 0, 0, 1], .acR8S9 409),
  ([1, 1, 1, 1, 1, 1, 1, 1, 1, 0, 1, 1, 1, 1, 0, 1, 0, 1, 1, 0, 0, 1, 1, 0, 0, 1], .acR8S10 409)] = true := by decide +kernel

/-- HUFF_AC, run 9: the codewords as R124 lists them, each with magnitude bits (R126). -/
theorem test_decode_huff_ac_run9 : decodesTo .huffAc [
  ([1, 1, 1, 1, 1, 1, 0, 0, 1, 1], .acR9S1 1), ([1, 1, 1, 1, 1, 1, 1, 1, 1, 0, 1, 1, 1, 1, 1, 0, 0, 1], .acR9S2 1),
  ([1, 1, 1, 1, 1, 1, 1, 1, 1, 0, 1, 1, 1, 1, 1, 1, 0, 0, 1], .acR9S3 1),
  ([1, 1, 1, 1, 1, 1, 1, 1, 1, 1, 0, 0, 0, 0, 0, 0, 1, 0, 0, 1], .acR9S4 9),
  ([1, 1, 1, 1, 1, 1, 1, 1, 1, 1, 0, 0, 0, 0, 0, 1, 1, 1, 0, 0, 1], .acR9S5 25),
  ([1, 1, 1, 1, 1, 1, 1, 1, 1, 1, 0, 0, 0, 0, 1, 0, 0, 1, 1, 0, 0, 1], .acR9S6 25),
  ([1, 1, 1, 1, 1, 1, 1, 1, 1, 1, 0, 0, 0, 0, 1, 1, 0, 0, 1, 1, 0, 0, 1], .acR9S7 25),
  ([1, 1, 1, 1, 1, 1, 1, 1, 1, 1, 0, 0, 0, 1, 0, 0, 1, 0, 0, 1, 1, 0, 0, 1], .acR9S8 153),
  ([1, 1, 1, 1, 1, 1, 1, 1, 1, 1, 0, 0, 0, 1, 0, 1, 1, 1, 0, 0, 1, 1, 0, 0, 1], .acR9S9 409),
  ([1, 1, 1, 1, 1, 1, 1, 1, 1, 1, 0, 0, 0, 1, 1, 0, 0, 1, 1, 0, 0, 1, 1, 0, 0, 1], .acR9S10 409)] = true := by decide +kernel

/-- HUFF_AC, run 10: the codewords as R124 lists them, each with magnitude bits (R126). -/
theorem test_decode_huff_ac_run10 : decodesTo .huffAc [
  ([1, 1, 1, 1, 1, 1, 0, 1, 0, 1], .acR10S1 1), ([1, 1, 1, 1, 1, 1, 1, 1, 1, 1, 0, 0, 0, 1, 1, 1, 0, 1], .acR10S2 1),
  ([1, 1, 1, 1, 1, 1, 1, 1, 1, 1, 0, 0, 1, 0, 0, 0, 0, 0, 1], .acR10S3 1),
  ([1, 1, 1, 1, 1, 1, 1, 1, 1, 1, 0, 0, 1, 0, 0, 1, 1, 0, 0, 1], .acR10S4 9),
  ([1, 1, 1, 1, 1, 1, 1, 1, 1, 1, 0, 0, 1, 0, 1, 0, 1, 1, 0, 0, 1], .acR10S5 25),
  ([1, 1, 1, 1, 1, 1, 1, 1, 1, 1, 0, 0, 1, 0, 1, 1, 0, 1, 1, 0, 0, 1], .acR10S6 25),
  ([1, 1, 1, 1, 1, 1, 1, 1, 1, 1, 0, 0, 1, 1, 0, 0, 0, 0, 1, 1, 0, 0, 1], .acR10S7 25),
  ([1, 1, 1, 1, 1, 1, 1, 1, 1, 1, 0, 0, 1, 1, 0, 1, 1, 0, 0, 1, 1, 0, 0, 1], .acR10S8 153),
  ([1, 1, 1, 1, 1, 1, 1, 1, 1, 1, 0, 0, 1, 1, 1, 0, 1, 1, 0, 0, 1, 1, 0, 0, 1], .acR10S9 409),
  ([1, 1, 1, 1, 1, 1, 1, 1, 1, 1, 0, 0, 1, 1, 1, 1, 0, 1, 1, 0, 0, 1, 1, 0, 0, 1], .acR10S10 409)] = true := by decide +kernel

/-- HUFF_AC, run 11: the codewords as R124 lists them, each with magnitude bits (R126). -/
theorem test_decode_huff_ac_run11 : decodesTo .huffAc [
  ([1, 1, 1, 1, 1, 1, 1, 0, 0, 1, 1], .acR11S1 1),
  ([1, 1, 1, 1, 1, 1, 1, 1, 1, 1, 0, 1, 0, 0, 0, 0, 0, 1], .acR11S2 1),
  ([1, 1, 1, 1, 1, 1, 1, 1, 1, 1, 0, 1, 0, 0, 0, 1, 0, 0, 1], .acR11S3 1),
  ([1, 1, 1, 1, 1, 1, 1, 1, 1, 1, 0, 1, 0, 0, 1, 0, 1, 0, 0, 1], .acR11S4 9),
  ([1, 1, 1, 1, 1, 1, 1, 1, 1, 1, 0, 1, 0, 0, 1, 1, 1, 1, 0, 0, 1], .acR11S5 25),
  ([1, 1, 1, 1, 1, 1, 1, 1, 1, 1, 0, 1, 0, 1, 0, 0, 0, 1, 1, 0, 0, 1], .acR11S6 25),
  ([1, 1, 1, 1, 1, 1, 1, 1, 1, 1, 0, 1, 0, 1, 0, 1, 0, 0, 1, 1, 0, 0, 1], .acR11S7 25),
  ([1, 1, 1, 1, 1, 1, 1, 1, 1, 1, 0, 1, 0, 1, 1, 0, 1, 0, 0, 1, 1, 0, 0, 1], .acR11S8 153),
  ([1, 1, 1, 1, 1, 1, 1, 1, 1, 1, 0, 1, 0, 1, 1, 1, 1, 1, 0, 0, 1, 1, 0, 0, 1], .acR11S9 409),
  ([1, 1, 1, 1, 1, 1, 1, 1, 1, 1, 0, 1, 1, 0, 0, 0, 0, 1, 1, 0, 0, 1, 1, 0, 0, 1], .acR11S10 409)] = true := by decide +kernel

/-- HUFF_AC, run 12: the codewords as R124 lists them, each with magnitude bits (R126). -/
theorem test_decode_huff_ac_run12 : decodesTo .huffAc [
  ([1, 1, 1, 1, 1, 1, 1, 0, 1, 0, 1], .acR12S1 1),
  ([1, 1, 1, 1, 1, 1, 1, 1, 1, 1, 0, 1, 1, 0, 0, 1, 0, 1], .acR12S2 1),
  ([1, 1, 1, 1, 1, 1, 1, 1, 1, 1, 0, 1, 1, 0, 1, 0, 0, 0, 1], .acR12S3 1),
  ([1, 1, 1, 1, 1, 1, 1, 1, 1, 1, 0, 1, 1, 0, 1, 1, 1, 0, 0, 1], .acR12S4 9),
  ([1, 1, 1, 1, 1, 1, 1, 1, 1, 1, 0, 1, 1, 1, 0, 0, 1, 1, 0, 0, 1], .acR12S5 25),
  ([1, 1, 1, 1, 1, 1, 1, 1, 1, 1, 0, 1, 1, 1, 0, 1, 0, 1, 1, 0, 0, 1], .acR12S6 25),
  ([1, 1, 1, 1, 1, 1, 1, 1, 1, 1, 0, 1, 1, 1, 1, 0, 0, 0, 1, 1, 0, 0, 1], .acR12S7 25),
  ([1, 1, 1, 1, 1, 1, 1, 1, 1, 1, 0, 1, 1, 1, 1, 1, 1, 0, 0, 1, 1, 0, 0, 1], .acR12S8 153),
  ([1, 1, 1, 1, 1, 1, 1, 1, 1, 1, 1, 0, 0, 0, 0, 0, 1, 1, 0, 0, 1, 1, 0, 0, 1], .acR12S9 409),
  ([1, 1, 1, 1, 1, 1, 1, 1, 1, 1, 1, 0, 0, 0, 0, 1, 0, 1, 1, 0, 0, 1, 1, 0, 0, 1], .acR12S10 409)] = true := by decide +kernel

/-- HUFF_AC, run 13: the codewords as R124 lists them, each with magnitude bits (R126). -/
theorem test_decode_huff_ac_run13 : decodesTo .huffAc [
  ([1, 1, 1, 1, 1, 1, 1, 1, 0, 0, 0, 1], .acR13S1 1),
  ([1, 1, 1, 1, 1, 1, 1, 1, 1, 1, 1, 0, 0, 0, 1, 0, 0, 1], .acR13S2 1),
  ([1, 1, 1, 1, 1, 1, 1, 1, 1, 1, 1, 0, 0, 0, 1, 1, 0, 0, 1], .acR13S3 1),
  ([1, 1, 1, 1, 1, 1, 1, 1, 1, 1, 1, 0, 0, 1, 0, 0, 1, 0, 0, 1], .acR13S4 9),
  ([1, 1, 1, 1, 1, 1, 1, 1, 1, 1, 1, 0, 0, 1, 0, 1, 1, 1, 0, 0, 1], .acR13S5 25),
  ([1, 1, 1, 1, 1, 1, 1, 1, 1, 1, 1, 0, 0, 1, 1, 0, 0, 1, 1, 0, 0, 1], .acR13S6 25),
  ([1, 1, 1, 1, 1, 1, 1, 1, 1, 1, 1, 0, 0, 1, 1, 1, 0, 0, 1, 1, 0, 0, 1], .acR13S7 25),
  ([1, 1, 1, 1, 1, 1, 1, 1, 1, 1, 1, 0, 1, 0, 0, 0, 1, 0, 0, 1, 1, 0, 0, 1], .acR13S8 153),
  ([1, 1, 1, 1, 1, 1, 1, 1, 1, 1, 1, 0, 1, 0, 0, 1, 1, 1, 0, 0, 1, 1, 0, 0, 1], .acR13S9 409),
  ([1, 1, 1, 1, 1, 1, 1, 1, 1, 1, 1, 0, 1, 0, 1, 0, 0, 1, 1, 0, 0, 1, 1, 0, 0, 1], .acR13S10 409)] = true := by decide +kernel

/-- HUFF_AC, run 14: the codewords as R124 lists them, each with magnitude bits (R126). -/
theorem test_decode_huff_ac_run14 : decodesTo .huffAc [
  ([1, 1, 1, 1, 1, 1, 1, 1, 1, 1, 1, 0, 1, 0, 1, 1, 1], .acR14S1 1),
  ([1, 1, 1, 1, 1, 1, 1, 1, 1, 1, 1, 0, 1, 1, 0, 0, 0, 1], .acR14S2 1),
  ([1, 1, 1, 1, 1, 1, 1, 1, 1, 1, 1, 0, 1, 1, 0, 1, 0, 0, 1], .acR14S3 1),
  ([1, 1, 1, 1, 1, 1, 1, 1, 1, 1, 1, 0, 1, 1, 1, 0, 1, 0, 0, 1], .acR14S4 9),
  ([1, 1, 1, 1, 1, 1, 1, 1, 1, 1, 1, 0, 1, 1, 1, 1, 1, 1, 0, 0, 1], .acR14S5 25),
  ([1, 1, 1, 1, 1, 1, 1, 1, 1, 1, 1, 1, 0, 0, 0, 0, 0, 1, 1, 0, 0, 1], .acR14S6 25),
  ([1, 1, 1, 1, 1, 1, 1, 1, 1, 1, 1, 1, 0, 0, 0, 1, 0, 0, 1, 1, 0, 0, 1], .acR14S7 25),
  ([1, 1, 1, 1, 1, 1, 1, 1, 1, 1, 1, 1, 0, 0, 1, 0, 1, 0, 0, 1, 1, 0, 0, 1], .acR14S8 153),
  ([1, 1, 1, 1, 1, 1, 1, 1, 1, 1, 1, 1, 0, 0, 1, 1, 1, 1, 0, 0, 1, 1, 0, 0, 1], .acR14S9 409),
  ([1, 1, 1, 1, 1, 1, 1, 1, 1, 1, 1, 1, 0, 1, 0, 0, 0, 1, 1, 0, 0, 1, 1, 0, 0, 1], .acR14S10 409)] = true := by decide +kernel

/-- HUFF_AC, run 15: the codewords as R124 lists them, each with magnitude bits (R126). -/
theorem test_decode_huff_ac_run15 : decodesTo .huffAc [
  ([1, 1, 1, 1, 1, 1, 1, 1, 0, 0, 1], .acZrl), ([1, 1, 1, 1, 1, 1, 1, 1, 1, 1, 1, 1, 0, 1, 0, 1, 1], .acR15S1 1),
  ([1, 1, 1, 1, 1, 1, 1, 1, 1, 1, 1, 1, 0, 1, 1, 0, 0, 1], .acR15S2 1),
  ([1, 1, 1, 1, 1, 1, 1, 1, 1, 1, 1, 1, 0, 1, 1, 1, 0, 0, 1], .acR15S3 1),
  ([1, 1, 1, 1, 1, 1, 1, 1, 1, 1, 1, 1, 1, 0, 0, 0, 1, 0, 0, 1], .acR15S4 9),
  ([1, 1, 1, 1, 1, 1, 1, 1, 1, 1, 1, 1, 1, 0, 0, 1, 1, 1, 0, 0, 1], .acR15S5 25),
  ([1, 1, 1, 1, 1, 1, 1, 1, 1, 1, 1, 1, 1, 0, 1, 0, 0, 1, 1, 0, 0, 1], .acR15S6 25),
  ([1, 1, 1, 1, 1, 1, 1, 1, 1, 1, 1, 1, 1, 0, 1, 1, 0, 0, 1, 1, 0, 0, 1], .acR15S7 25),
  ([1, 1, 1, 1, 1, 1, 1, 1, 1, 1, 1, 1, 1, 1, 0, 0, 1, 0, 0, 1, 1, 0, 0, 1], .acR15S8 153),
  ([1, 1, 1, 1, 1, 1, 1, 1, 1, 1, 1, 1, 1, 1, 0, 1, 1, 1, 0, 0, 1, 1, 0, 0, 1], .acR15S9 409),
  ([1, 1, 1, 1, 1, 1, 1, 1, 1, 1, 1, 1, 1, 1, 1, 0, 0, 1, 1, 0, 0, 1, 1, 0, 0, 1], .acR15S10 409)] = true := by decide +kernel

/-- The codewords are those that R121 builds from the counts and symbols of R122 and R123. -/
theorem test_canonical_dc : canonicalOk Rom.dcHuff Rom.dcCounts Rom.dcSyms = true := by decide +kernel
theorem test_canonical_ac : canonicalOk Rom.acHuff Rom.acCounts Rom.acSyms = true := by decide +kernel

/-! ## QTB -/

/-- QUALITY 25, 49, 75 (R169), 55 (T3), 98 (T8), the first entries. -/
theorem test_qtb_entries :
    (nextIs (exec .qtbBuild (withParams 8 8 25)) (fun t => decide (t.qt.toList.take 8 = [32, 22, 24, 28, 24, 20, 32, 28])) &&
     nextIs (exec .qtbBuild (withParams 8 8 49)) (fun t => decide (t.qt[15] = 41 ∧ t.qt[14] = 24)) &&
     nextIs (exec .qtbBuild (withParams 8 8 55)) (fun t => decide (t.qt[22] = 32 ∧ t.qt[33] = 50 ∧ t.qt[42] = 50 ∧ t.qt[48] = 86)) &&
     nextIs (exec .qtbBuild (withParams 8 8 98)) (fun t => decide (t.qt.toList.take 8 = [1, 0, 0, 1, 0, 0, 1, 1]))) = true := by
  decide +kernel

/-- QUALITY 0, -1, -32768 (T11, T12). -/
theorem test_qtb_invalid : (raised (exec .qtbBuild (withParams 8 8 0)) .invalidQuality 0 &&
    raised (exec .qtbBuild (withParams 8 8 0xFFFF)) .invalidQuality 0xFFFFFFFF &&
    raised (exec .qtbBuild (withParams 8 8 0x8000)) .invalidQuality 0xFFFF8000) = true := by decide +kernel

/-! ## BLK -/

/-- The 16 by 16 image IMG[a] = a mod 256 (T25), rows 8 to 15. -/
def rampImage : State :=
  { withParams 16 16 50 with blkX := 8, blkY := 8, img := (List.range 128).map fun a => (128 + a, BitVec.ofNat 8 (128 + a)) }

/-- T25. -/
theorem test_blkFetch : nextIs (exec .blkFetch rampImage) (fun t =>
    decide (t.samp[0] = 136 ∧ t.samp[7] = 143 ∧ t.samp[8] = 152 ∧ t.samp[63] = 255 ∧ t.phase = .fdct)) = true := by
  decide +kernel

/-- T20 to T22, and the largest image (T26). -/
theorem test_blkNext :
    (nextIs (exec .blkNext (withParams 16 16 50)) (fun t => decide (t.blkX = 8 ∧ t.blkY = 0 ∧ t.phase = .blkFetch)) &&
     nextIs (exec .blkNext { withParams 16 16 50 with blkX := 8 })
       (fun t => decide (t.blkX = 0 ∧ t.blkY = 8 ∧ t.phase = .blkFetch)) &&
     nextIs (exec .blkNext rampImage) (fun t => decide (t.blkX = 0 ∧ t.blkY = 16 ∧ t.phase = .bwFinal)) &&
     nextIs (exec .blkNext { withParams 65528 65528 50 with blkX := 65520, blkY := 65520 })
       (fun t => decide (t.blkX = 0 ∧ t.blkY = 65528 ∧ t.phase = .bwFinal))) = true := by decide +kernel

/-! ## FDCT -/

/-- A million times the exact real, truncated. -/
def micro (x : ExactReal) : Int := (x.mul (ExactReal.ofInt 1000000)).trunc

/-- The block 0 0 0 0 255 255 255 255 in every row (R199 (c)): which index is horizontal, sign and size. -/
theorem test_fdct_step : nextIs (exec .fdct { State.reset with samp := tabulate fun i => if i.val % 8 < 4 then 0 else 255 })
    (fun t => decide (micro t.coef[0] = -4000000 ∧ micro t.coef[1] = -924249995 ∧ micro t.coef[3] = 324553438 ∧
      micro t.coef[7] = 183844754 ∧ micro t.coef[8] = 0)) = true := by decide +kernel

/-- One sample 255 among 128s (R199 (b)). -/
theorem test_fdct_impulse : nextIs (exec .fdct { State.reset with samp := tabulate fun i => if i.val = 0 then 255 else 128 })
    (fun t => decide (micro t.coef[0] = 15875000 ∧ micro t.coef[1] = 22019257 ∧ micro t.coef[8] = 22019257 ∧
      micro t.coef[9] = 30541587 ∧ micro t.coef[63] = 1208412)) = true := by decide +kernel

/-! ## QUANT, ZIGZAG -/

/-- T36: the least zero index is raised, QUO is not written. -/
theorem test_quant_zero : (raised (exec .quant { State.reset with qt := tabulate fun i => if i.val = 5 ∨ i.val = 9 then 0 else 1 })
    .degenerateQuantEntry 5) = true := by decide +kernel

/-- R220 (d): COEF[2] = 25 is divided by QT[2] = 12 of BASE. -/
theorem test_quant_same_index : nextIs (exec .quant { State.reset with
      qt := qtTable 50, coef := tabulate fun i => ExactReal.ofInt (if i.val = 2 then 25 else 0) })
    (fun t => decide (t.quo[2].trunc = 2 ∧ micro t.quo[2] = 2083333)) = true := by decide +kernel

/-- R220 (b): the permutation, and LEN = 63. -/
theorem test_zigzag_permutation : nextIs (exec .zigzag { State.reset with quo := tabulate fun i => ExactReal.ofInt i.val })
    (fun t => decide (t.zz.toList.take 8 = [0, 1, 8, 16, 9, 2, 3, 10] ∧ t.zz[62] = 62 ∧ t.len = 63)) = true := by
  decide +kernel

/-- R220 (a) and (c): truncation toward zero; LEN counts. -/
theorem test_zigzag_truncation : nextIs (exec .zigzag { State.reset with
      quo := tabulate fun i => (ExactReal.ofInt (if i.val = 0 then 2999 else if i.val = 1 then -2999 else if i.val = 16
        then -999 else if i.val = 9 then -36000 else 0)).divNat 1000 })
    (fun t => decide (t.zz.toList.take 5 = [2, -2, 0, 0, -36] ∧ t.len = 3)) = true := by decide +kernel

/-! ## ENT -/

/-- The three operations of a block. -/
def entBlock (s : State) : Result := andThen (andThen (exec .entDc s) (exec .entAc)) (exec .entEob)

/-- T43: category 11, and a stuffed byte. -/
theorem test_entDc : nextIs (exec .entDc (entropyState (entries [(0, -1024)]) 1 0))
    (fun t => streamIs t [0xFF, 0x00, 0x3F] 15 4 && decide (t.pred = -1024)) = true := by decide +kernel

/-- R246 (b): LEN 0 and PRED 5. -/
theorem test_entDc_empty : nextIs (exec .entDc (entropyState (entries []) 0 5))
    (fun t => streamIs t [] 0b100010 6 && decide (t.pred = 0)) = true := by decide +kernel

/-- R246 (f): a run of sixteen zeros, then thirty-one ones; the entries from 48 on are dropped. -/
theorem test_entAc_zrl : nextIs (exec .entAc (entropyState (tabulate fun k => if k.val = 0 ∨ 17 ≤ k.val then 1 else 0) 48 0))
    (fun t => streamIs t [0xFF, 0x00, 0x24, 0x92, 0x49, 0x24, 0x92, 0x49, 0x24, 0x92, 0x49, 0x24, 0x92, 0x49] 0 0 &&
      decide (t.nz = 0)) = true := by decide +kernel

/-- T48: the whole block of T33, whose last nine nonzero entries are dropped. -/
theorem test_ent_block : nextIs (entBlock (entropyState (entries
      [(0, -5), (1, -1), (2, 1), (3, 5), (4, -5), (5, 2), (7, -2), (8, -2), (9, -4), (10, -1), (11, 2), (14, -3), (15, -1),
       (16, 2), (17, 4), (18, -1), (22, -1), (25, -2), (26, -1), (27, 4), (28, 4), (29, 5), (30, 1), (33, -2), (35, -1),
       (42, -1), (43, -1), (45, -1), (46, 1), (51, -1), (57, 1), (63, -1)]) 32 0))
    (fun t => streamIs t [0x88, 0x19, 0x62, 0x6D, 0xAB, 0x18, 0x6F, 0x90, 0x34, 0x83, 0xA7, 0xCA, 0x24, 0x92, 0x53] 0b010 3 &&
      decide (t.pred = -5 ∧ t.phase = .blkNext)) = true := by decide +kernel

/-- ENT.EOB: LEN 63 and LEN 64 (R240). -/
theorem test_entEob : (nextIs (exec .entEob (entropyState (entries []) 63 0)) (fun t => streamIs t [] 0b1010 4) &&
    nextIs (exec .entEob (entropyState (entries []) 64 0)) (fun t => streamIs t [] 0 0)) = true := by decide +kernel

/-- R129: a difference of category 12, and an entry of category 11. -/
theorem test_no_codeword : (faultIs (exec .entDc (entropyState (entries [(0, 2048)]) 1 0)) (.noCodeword 12) &&
    faultIs (exec .entAc (entropyState (entries [(1, -1024)]) 2 0)) (.noCodeword 0x0B)) = true := by decide +kernel

/-! ## BW, OUT -/

/-- T57: the most ever buffered, twice stuffed; R269 (d): masking. -/
theorem test_bwWrite : (nextIs (exec (.bwWrite 0xFFFF 16) { State.reset with acc := 0b1111111, accn := 7 })
      (fun t => streamIs t [0xFF, 0x00, 0xFF, 0x00] 0b1111111 7) &&
    nextIs (exec (.bwWrite 0x1F5 4) State.reset) (fun t => streamIs t [] 0b0101 4)) = true := by decide +kernel

/-- R261: no bits append nothing; R262: 20 bits in one go are as 4 and 16 of them. -/
theorem test_bwWrite_range : (nextIs (exec (.bwWrite 0xFF 0) { State.reset with acc := 0b101, accn := 3 })
      (fun t => streamIs t [] 0b101 3) &&
    nextIs (exec (.bwWrite 0xABCDE 20) State.reset) (fun t => streamIs t [0xAB, 0xCD] 0xE 4) &&
    nextIs (andThen (exec (.bwWrite 0xA 4) State.reset) (exec (.bwWrite 0xBCDE 16)))
      (fun t => streamIs t [0xAB, 0xCD] 0xE 4)) = true := by decide +kernel

/-- T61: the stuffing append overflows. -/
theorem test_bwWrite_overflow : raised (exec (.bwWrite 0xFF 8) { withCap 329 with outlen := 328 }) .outputOverflow 329 = true := by
  decide +kernel

/-- T59. -/
theorem test_bwFinalize : nextIs (exec .bwFinalize { State.reset with acc := 0b101, accn := 3 })
    (fun t => streamIs t [] 0 0 && decide (t.phase = .hdrEoi)) = true := by decide +kernel

/-- T60, and the append below it (R266). -/
theorem test_outAppend : (raised (exec (.outAppend 0x12) { withCap 5 with outlen := 5 }) .outputOverflow 5 &&
    nextIs (exec (.outAppend 0xFC) { withCap 5 with outlen := 4 })
      (fun t => decide (t.outlen = 5 ∧ t.out = [(4, 0xFC)]))) = true := by decide +kernel

/-- Coded items by themselves: DC.CAT9 of R261's example, AC.R15S1, AC.ZRL, AC.EOB. -/
theorem test_coded_items : (nextIs (exec (.dcCat9 27) State.reset) (fun t => streamIs t [0xFC, 0x1B] 0 0) &&
    nextIs (exec (.acR15S1 1) State.reset) (fun t => streamIs t [0xFF, 0x00, 0xF5] 1 1) &&
    nextIs (exec .acZrl State.reset) (fun t => streamIs t [0xFF, 0x00] 0b001 3) &&
    nextIs (exec .acEob State.reset) (fun t => streamIs t [] 0b1010 4)) = true := by decide +kernel

/-! ## HDR, markers -/

/-- T65. -/
theorem test_hdr_constant : (appends (exec .hdrSoi State.reset) [0xFF, 0xD8] .hdrApp0 &&
    appends (exec .hdrApp0 State.reset) [0xFF, 0xE0, 0x00, 0x10, 0x4A, 0x46, 0x49, 0x46, 0x00, 0x01, 0x01, 0x00, 0x00, 0x01,
      0x00, 0x01, 0x00, 0x00] .hdrDqt &&
    appends (exec .hdrSos State.reset) [0xFF, 0xDA, 0x00, 0x08, 0x01, 0x01, 0x00, 0x00, 0x3F, 0x00] .blkFetch &&
    appends (exec .hdrEoi State.reset) [0xFF, 0xD9] .done) = true := by decide +kernel

/-- T67 and T69: height first, no stuffing. -/
theorem test_hdr_sof0 : (appends (exec .hdrSof0 (withParams 16 8 50))
      [0xFF, 0xC0, 0x00, 0x0B, 0x08, 0x00, 0x08, 0x00, 0x10, 0x01, 0x01, 0x11, 0x00] .hdrDhtDc &&
    appends (exec .hdrSof0 (withParams 65472 8 50))
      [0xFF, 0xC0, 0x00, 0x0B, 0x08, 0x00, 0x08, 0xFF, 0xC0, 0x01, 0x01, 0x11, 0x00] .hdrDhtDc) = true := by decide +kernel

/-- T70: sixty-four 0xFF, unstuffed. -/
theorem test_hdr_dqt : appends (exec .hdrDqt { State.reset with qt := tabulate fun _ => 0xFF })
    ([0xFF, 0xDB, 0x00, 0x43, 0x00] ++ List.replicate 64 0xFF) .hdrSof0 = true := by decide +kernel

/-- R286 in full, R287's first and last bytes. -/
theorem test_hdr_dht : (appends (exec .hdrDhtDc State.reset) [0xFF, 0xC4, 0x00, 0x1F, 0x00, 0x00, 0x01, 0x05, 0x01, 0x01, 0x01,
      0x01, 0x01, 0x01, 0x00, 0x00, 0x00, 0x00, 0x00, 0x00, 0x00, 0x00, 0x01, 0x02, 0x03, 0x04, 0x05, 0x06, 0x07, 0x08, 0x09,
      0x0A, 0x0B] .hdrDhtAc &&
    nextIs (exec .hdrDhtAc State.reset) (fun t => decide (t.outlen = 183 ∧ (outBytes t).take 30 = [0xFF, 0xC4, 0x00, 0xB5,
      0x10, 0x00, 0x02, 0x01, 0x03, 0x03, 0x02, 0x04, 0x03, 0x05, 0x05, 0x04, 0x04, 0x00, 0x00, 0x01, 0x7D, 0x01, 0x02, 0x03,
      0x00, 0x04, 0x11, 0x05, 0x12, 0x21] ∧ (outBytes t).drop 177 = [0xF5, 0xF6, 0xF7, 0xF8, 0xF9, 0xFA]))) = true := by
  decide +kernel

/-- The markers and the stuffed byte by themselves (R113, R128). -/
theorem test_markers : ([(.markerSoi, 0xD8), (.markerApp0, 0xE0), (.markerDqt, 0xDB), (.markerSof0, 0xC0), (.markerDht, 0xC4),
    (.markerSos, 0xDA), (.markerEoi, 0xD9), (.stuff, 0x00)].all fun row : Instr × Byte =>
      appends (exec row.1 State.reset) [0xFF, row.2] .idle) = true := by decide +kernel

/-! ## Sequencer and host -/

/-- T75's check, both dimensions 0; WIDTH = 12 (R311); 65528 is legal. -/
theorem test_seqCheck : (raised (exec .seqCheck State.reset) .invalidDimension 0 &&
    raised (exec .seqCheck (withParams 12 8 50)) .invalidDimension 0x0008000C &&
    nextIs (exec .seqCheck (withParams 65528 65528 50)) (fun t => decide (t.phase = .qtb))) = true := by decide +kernel

/-- T77, T78: ENCODE clears the error, and the old result is gone. -/
theorem test_encode : (nextIs (exec (.encode 0) { atPhase .error with errCode := .invalidQuality, errInfo := 7 })
      (fun t => decide (t.status = .busy ∧ t.errCode = .none ∧ t.errInfo = 0 ∧ t.phase = .check)) &&
    nextIs (exec (.encode 0) { atPhase .done with outlen := 330, pred := 4, acc := 1, accn := 3 })
      (fun t => decide (t.outlen = 0 ∧ regValue t 0x1C = 0 ∧ t.pred = 0 ∧ t.acc = 0 ∧ t.accn = 0))) = true := by decide +kernel

/-- T76, T79, T80: writes while BUSY, CTRL with bit 0 clear, CTRL with all bits set. -/
theorem test_host_writes : (nextIs (step ({ atPhase .fdct with width := 8 }.withInputs [hostWrite 0x08 24]))
      (fun t => decide (t.width = 8)) &&
    nextIs (step ((atPhase .fdct).withInputs [hostWrite 0x00 1])) (fun t => decide (t.phase = .fdct)) &&
    nextIs (step ((atPhase .done).withInputs [hostWrite 0x00 0xFFFFFFFE])) (fun t => decide (t.status = .done)) &&
    nextIs (step ((atPhase .done).withInputs [hostWrite 0x00 0xFFFFFFFF])) (fun t => decide (t.phase = .check))) = true := by
  decide +kernel

/-- R34, R36, R39: STATUS, QUALITY and the length as the host reads them. -/
theorem test_host_reads : (nextIs (step ((atPhase .done).withInputs [.host (.regRead 0x04 .word)])) (fun t => decide (t.rdata = 2)) &&
    nextIs (step ((withParams 8 8 0xFFFF).withInputs [.host (.regRead 0x10 .word)])) (fun t => decide (t.rdata = 0xFFFF)) &&
    nextIs (step ({ atPhase .done with outlen := 2 ^ 32 + 330 }.withInputs [.host (.regRead 0x20 .word)]))
      (fun t => decide (t.rdata = 1)) &&
    nextIs (step ({ atPhase .fdct with outlen := 330 }.withInputs [.host (.regRead 0x1C .word)]))
      (fun t => decide (t.rdata = 0))) = true := by decide +kernel

/-- R81, R85: the refusals. -/
theorem test_host_refused : (refusalIs (step (State.reset.withInputs [.host (.regRead 0x06 .word)])) .regMisaligned &&
    refusalIs (step (State.reset.withInputs [.host (.regWrite 0x08 .half 8)])) .regNarrow &&
    refusalIs (step (State.reset.withInputs [.host (.outRead 0)])) .outNotReadable &&
    refusalIs (step ({ atPhase .done with outlen := 1 }.withInputs [.host (.outRead 1)])) .outBeyondLength &&
    refusalIs (step (State.reset.withInputs [.host (.imgRead 0xFFFFFFFF)])) .imgNoSuchAddress) = true := by decide +kernel

/-- R97: a host write during an encode takes effect in IMG, and the byte it replaced is remembered. -/
theorem test_host_tears : nextIs (step ({ atPhase .fdct with img := [(5, 7)] }.withInputs [.host (.imgWrite 5 9)]))
    (fun t => decide (t.img = [(5, 9)] ∧ t.torn = [(5, 7)])) = true := by decide +kernel

/-- R82: a host read of IMG returns the byte last written; the last address that exists is taken, the one after it is not (R80). -/
theorem test_host_img : (nextIs (step (State.reset.withInputs [.host (.imgWrite 0xFFF0003F 9)]))
      (fun t => decide (t.img = [(4293918783, 9)] ∧ t.torn = [])) &&
    nextIs (step ({ State.reset with img := [(5, 7), (8, 1)] }.withInputs [.host (.imgRead 8)])) (fun t => decide (t.rdata = 1)) &&
    refusalIs (step (State.reset.withInputs [.host (.imgWrite 0xFFF00040 9)])) .imgNoSuchAddress) = true := by decide +kernel

/-- R133: WAIT ends at DONE with STATUS read; the end of ENCODE; RDOUT. -/
theorem test_host_program_end :
    (nextIs (step ((atPhase .done).withInputs [.wait, .host .collect])) (fun t => decide (t.rdata = 2 ∧ t.inputs = [.host .collect])) &&
    nextIs (step ((atPhase .done).withInputs [.host .collect])) (fun t => decide (t.inputs = [.host .rdOut])) &&
    nextIs (step ((atPhase .error).withInputs [.host .collect]))
      (fun t => decide (t.inputs = [.host (.regRead 0x14 .word), .host (.regRead 0x18 .word)])) &&
    nextIs (step ({ atPhase .done with out := [(0, 0xFF), (1, 0xD8), (2, 0x11)], outlen := 2 }.withInputs [.host .rdOut]))
      (fun t => decide (t.rdout = [0xFF, 0xD8])) &&
    refusalIs (step ((atPhase .error).withInputs [.host .rdOut])) .outNotReadable) = true := by decide +kernel

/-- A flat word of the opcode table is placed where the next step takes it from. -/
theorem test_withFetchWord : (nextIs (step (State.reset.withFetchWord 40 1)) (fun t => decide (t.phase = .check)) &&
    nextIs (step (State.reset.withFetchWord 8 18)) (fun t => decide (t.phase = .hdrEoi)) &&
    nextIs (step (State.reset.withFetchWord 16 0xFFD9)) (fun t => decide (outBytes t = [0xFF, 0xD9])) &&
    nextIs (step (State.reset.withFetchWord 16 0xFF00)) (fun t => decide (outBytes t = [0xFF, 0x00])) &&
    nextIs (step (State.reset.withFetchWord 8 0b11110)) (fun t => streamIs t [0xF0] 0 4) &&
    nextIs (step (State.reset.withFetchWord 16 0b11111111001)) (fun t => streamIs t [0xFF, 0x00] 1 3)) = true := by
  decide +kernel

/-! ## Witnesses

For every statement with hypotheses, a state and operands that meet them together; for a statement of several clauses, one for
each, at the ends of its range. -/

theorem within_unbounded {s : State} (h : s.outCap = none) : WithinCap s := fun c hc => by rw [h] at hc; cases hc
theorem room_unbounded {s : State} (h : s.outCap = none) (n : ℕ) : Room s n := fun c hc => by rw [h] at hc; cases hc
theorem fits_unbounded {s : State} (h : s.outCap = none) : Fits s := fun c hc => by rw [h] at hc; cases hc
theorem within_of {s : State} {c : ℕ} (h : s.outCap = some c) (hc : s.outlen ≤ c) : WithinCap s :=
  fun c' h' => by rw [h] at h'; cases h'; exact hc
theorem room_of {s : State} {n c : ℕ} (h : s.outCap = some c) (hc : s.outlen + n ≤ c) : Room s n :=
  fun c' h' => by rw [h] at h'; cases h'; exact hc
theorem noRoom_of {s : State} {n c : ℕ} (h : s.outCap = some c) (hc : c < s.outlen + n) : ¬Room s n :=
  fun hr => absurd (hr c h) (Nat.not_le.mpr hc)
theorem bitsHeld_of {s : State} (h : s.accn ≤ 7 ∧ s.acc < 2 ^ s.accn) : BitsHeld s := h

theorem witness_CodedItemsReadFromTheFront :
    encode (.dcCat3 0b010) = .sub (.huffDc (bits [1, 0, 0, 0, 1, 0])) ∧
      encode (.acR0S4 0b0110) = .sub (.huffAc (bits [1, 0, 1, 1, 0, 1, 1, 0])) := by decide +kernel

/-- A busy state before an operation, with no input, with a turn, and with a poll; a quiescent one with a turn and with a poll; a
CTRL write; an issued operation. -/
theorem witness_StepRunsTheDecodedOperation :
    (atPhase .fdct).busy = true ∧ decode (.uop (phaseCode (atPhase .fdct).phase)) = .ok .fdct ∧ (atPhase .fdct).inputs = [] ∧
      ((atPhase .fdct).withInputs [.seq]).inputs = .seq :: [] ∧ ((atPhase .fdct).withInputs [.wait]).inputs = .wait :: [] ∧
      ((atPhase .done).withInputs [.seq]).busy = false ∧ ((atPhase .done).withInputs [.seq]).inputs = .seq :: [] ∧
      ((atPhase .error).withInputs [.wait]).busy = false ∧ ((atPhase .error).withInputs [.wait]).inputs = .wait :: [] ∧
      (State.reset.withInputs [hostWrite 0 1]).inputs = .host (.regWrite 0 .word 1) :: [] ∧
      decode (.host 0 1) = .ok (.encode 0) ∧
      (State.reset.withInputs [.issue .seqDone]).inputs = .issue .seqDone :: [] :=
  ⟨rfl, rfl, rfl, rfl, rfl, rfl, rfl, rfl, rfl, rfl, rfl, rfl⟩

theorem witness_PlacedCodesRunTheirOperation :
    decode (.host 0 1) = .ok (.encode 0) ∧ decode (.sub (.marker 0xFFD9)) = .ok .markerEoi ∧
      decode (.uop (phaseCode .check)) = .ok .seqCheck ∧ decode (.uop (phaseCode .hdrEoi)) = .ok .hdrEoi := ⟨rfl, rfl, rfl, rfl⟩

theorem witness_QuiescentStepChangesNothing :
    [Phase.idle, .done, .error].all (fun p => decide ((atPhase p).inputs = [] ∧ (atPhase p).phase = p)) = true := by decide +kernel

/-- Every row of the table is met; each but BLK.FETCH's, which needs an image, answers a next state from reset's parameters. -/
theorem witness_PhaseMovesAlongTheTable :
    phases.all (fun p => decide ((atPhase p).inputs = [] ∧ (atPhase p).status = statusOfPhase (atPhase p).phase) &&
      (decide (p = .blkFetch) || nextIs (step (atPhase p)) fun _ => true)) = true := by decide +kernel

/-- Both ways out of BLK.NEXT, and BLK.FETCH inside an image. -/
theorem witness_PhaseMovesAlongTheTable_blocks :
    nextIs (step { atPhase .blkNext with width := 8, height := 8 }) (fun t => decide (t.phase = .bwFinal ∧ t.blkY = 8)) = true ∧
      nextIs (step { atPhase .blkNext with width := 8, height := 16 })
        (fun t => decide (t.phase = .blkFetch ∧ t.blkY ≠ 16)) = true ∧
      nextIs (step { atPhase .blkFetch with width := 8, height := 8 }) (fun t => decide (t.phase = .fdct)) = true := by
  decide +kernel

theorem witness_ResetInputAbandonsTheEncode :
    ((atPhase .fdct).withInputs [.host .reset]).inputs = .host .reset :: [] := rfl

theorem witness_EncodeSetsThePerEncodeState : (atPhase .fdct).status = .busy ∧ (atPhase .done).status ≠ .busy := by decide +kernel

/-- Each of the four reasons, and the least and the greatest legal dimensions. -/
theorem witness_SeqCheckTestsTheDimensions :
    (withParams 0 8 50).width.toNat = 0 ∧ (withParams 8 0 50).height.toNat = 0 ∧ (withParams 12 8 50).width.toNat % 8 ≠ 0 ∧
      (withParams 8 65535 50).height.toNat % 8 ≠ 0 ∧
      ∀ s ∈ [withParams 8 8 50, withParams 65528 65528 50],
        ¬(s.width.toNat = 0 ∨ s.height.toNat = 0 ∨ s.width.toNat % 8 ≠ 0 ∨ s.height.toNat % 8 ≠ 0) := by decide +kernel

/-- Each of the four exceptions. -/
theorem witness_ErrorEntryAbandonsTheOperation :
    (withParams 12 8 50).status ≠ .error ∧ (raised (exec .seqCheck (withParams 12 8 50)) .invalidDimension 0x0008000C &&
      raised (exec .qtbBuild (withParams 8 8 0xFFFF)) .invalidQuality 0xFFFFFFFF &&
      raised (exec .quant (atPhase .quant)) .degenerateQuantEntry 0 &&
      raised (exec .hdrSoi (withCap 1)) .outputOverflow 1) = true := by decide +kernel

theorem witness_QtbBuildsTheExactTable :
    (withParams 8 8 0).quality.toInt ≤ 0 ∧ (withParams 8 8 0x8000).quality.toInt ≤ 0 ∧ 0 < (withParams 8 8 1).quality.toInt ∧
      0 < (withParams 8 8 32767).quality.toInt := by decide +kernel

theorem witness_QuantTableClosedForms :
    [(1 : BitVec 16), 49, 50, 100, 101, 32767].all (fun q => decide (0 < (withParams 8 8 q).quality.toInt)) = true := by
  decide +kernel

theorem witness_QuantTableDependsOnQualityAndFalls :
    0 < (withParams 8 8 50).quality.toInt ∧ (withParams 8 8 50).quality.toInt < (withParams 8 8 51).quality.toInt ∧
      (nextIs (exec .qtbBuild (withParams 8 8 50)) (fun _ => true) &&
        nextIs (exec .qtbBuild (withParams 8 8 51)) fun _ => true) = true := by decide +kernel

/-- A state past QTB.BUILD at a quality. -/
def tabled (q : BitVec 16) : State := { withParams 8 8 q with qt := qtTable q.toInt }

theorem witness_HighQualityTablesHaveZeros :
    [(1 : BitVec 16), 97, 98, 99, 100, 32767].all (fun q => decide (0 < (tabled q).quality.toInt)) = true ∧
      ∀ q, (tabled q).qt = qtTable (tabled q).quality.toInt :=
  ⟨by decide +kernel, fun _ => rfl⟩

/-- OUT unbounded; with room for nothing. -/
theorem witness_WithinCap : WithinCap State.reset ∧ WithinCap (withCap 0) ∧ Room State.reset 183 ∧ ¬Room (withCap 0) 1 :=
  ⟨within_unbounded rfl, within_of rfl (by decide), room_unbounded rfl _, noRoom_of (c := 0) rfl (by decide)⟩

/-- The hypothesis of HeaderOperationsAppendTheirBytes, EoiCompletesTheEncode and MarkersAndStuffedByteAreTwoBytes with room and
without, and every part of the header. -/
theorem witness_HeaderOperationsAppendTheirBytes :
    WithinCap (withCap 1) ∧ ¬Room (withCap 1) 2 ∧ WithinCap (withCap 2) ∧ Room (withCap 2) 2 ∧
      (headerParts State.reset).length = 7 :=
  ⟨within_of (c := 1) rfl (by decide), noRoom_of (c := 1) rfl (by decide), within_of (c := 2) rfl (by decide),
    room_of (c := 2) rfl (by decide), by decide +kernel⟩

theorem witness_HeaderIs328Bytes :
    let s : State := { withCap 328 with phase := .hdrSoi, status := .busy }
    s.inputs = [] ∧ s.status = .busy ∧ s.phase = .hdrSoi ∧ s.outlen = 0 ∧ Room s 328 :=
  ⟨rfl, rfl, rfl, rfl, room_of (c := 328) rfl (by decide)⟩

theorem witness_OutAppendWritesAtOutlen : Room (withCap 1) 1 ∧ ¬Room (withCap 0) 1 :=
  ⟨room_of (c := 1) rfl (by decide), noRoom_of (c := 0) rfl (by decide)⟩

theorem witness_EmittedBytesAreNeverRewritten :
    (nextIs (exec (.encode 5) State.reset) (fun _ => true) && nextIs (exec .hdrSoi { State.reset with outlen := 2 }) fun _ => true)
      = true := by decide +kernel

/-- The first and the last block of the largest image. -/
theorem witness_BlkFetchReadsTheBlock :
    let s := { withParams 65528 65528 50 with blkX := 65520, blkY := 65520 }
    (withParams 8 8 50).blkX < (withParams 8 8 50).width ∧ (withParams 8 8 50).blkY < (withParams 8 8 50).height ∧
      s.blkX < s.width ∧ s.blkY < s.height ∧ tornAt s 4293918783 = [] := by decide +kernel

theorem witness_TornSamplesAreSomeByteHeld :
    tornAt { withParams 8 8 50 with torn := [(5, 7)] } 5 = [7] ∧
      nextIs (exec .blkFetch { withParams 8 8 50 with torn := [(5, 7)] }) (fun _ => true) = true ∧
      ¬((withParams 8 8 50).blkX < (withParams 8 8 50).width ∧ (8 : BitVec 16) < (withParams 8 8 50).height) := by
  decide +kernel

theorem witness_BlkNextAdvancesTheCursor :
    let s := { withParams 65528 65528 50 with blkX := 65520, blkY := 65520 }
    (s.blkX.toNat + 8 < 2 ^ 16 ∧ s.blkY.toNat + 8 < 2 ^ 16 ∧ s.blkX.toNat + 8 = s.width.toNat) ∧
      (withParams 16 8 50).blkX.toNat + 8 < 2 ^ 16 ∧ (withParams 16 8 50).blkX.toNat + 8 ≠ (withParams 16 8 50).width.toNat := by
  decide +kernel

/-- T24's image: six blocks, the first and the end. -/
theorem witness_BlocksComeInRasterOrder :
    let s := { withParams 24 16 50 with phase := .blkFetch }
    legalDimension s.width = true ∧ legalDimension s.height = true ∧ s.blkX = 0 ∧ s.blkY = 0 ∧ s.phase = .blkFetch ∧
      blockCount s = 6 ∧ 0 < blockCount s ∧ 6 ≤ blockCount s := by decide +kernel

/-- Zero entries at 5 and 9 (T36), at 0, at 63, and none. -/
theorem witness_QuantDividesAtTheSameIndex :
    ∀ k ∈ [(0 : Fin 64), 5, 63],
      let s := { State.reset with qt := tabulate fun i => if i = k ∨ i.val = 63 then 0 else 1 }
      s.qt[k] = 0 ∧ ∀ j : Fin 64, j < k → s.qt[j] ≠ 0 := by decide +kernel

/-- A table without zeros (also for QuantizedEntriesStayInRange). -/
theorem witness_QuantizedEntriesStayInRange : (∀ i : Fin 64, (tabled 1).qt[i] ≠ 0) ∧ ∀ i : Fin 64, (tabled 97).qt[i] ≠ 0 := by
  decide +kernel

/-- An empty and a full accumulator. -/
theorem witness_BwWriteConcatenatesBits :
    BitsHeld State.reset ∧ BitsHeld { State.reset with acc := 127, accn := 7 } ∧ WithinCap State.reset :=
  ⟨bitsHeld_of (by decide), bitsHeld_of (by decide), within_unbounded rfl⟩

theorem witness_CodedItemsEmitTheirEncoding :
    encode (.dcCat11 0b10000000000) = .sub (.huffDc (bits [1, 1, 1, 1, 1, 1, 1, 1, 0, 1, 0, 0, 0, 0, 0, 0, 0, 0, 0, 0])) ∧
      encode .acEob = .sub (.huffAc (bits [1, 0, 1, 0])) ∧ BitsHeld State.reset ∧ WithinCap State.reset :=
  ⟨by decide +kernel, by decide +kernel, bitsHeld_of (by decide), within_unbounded rfl⟩

/-- The greatest difference with a codeword and the least without. -/
theorem witness_EntDcCodesTheDifference :
    let s := entropyState (entries [(0, 1023)]) 1 (-1024)
    let s' := entropyState (entries [(0, 1024)]) 1 (-1024)
    BitsHeld s ∧ WithinCap s ∧ (s.zz[0] - s.pred).natAbs < 2048 ∧ BitsHeld s' ∧ WithinCap s' ∧
      2048 ≤ (s'.zz[0] - s'.pred).natAbs :=
  ⟨bitsHeld_of (by decide), within_unbounded rfl, by decide +kernel, bitsHeld_of (by decide), within_unbounded rfl,
    by decide +kernel⟩

/-- The greatest entry with a codeword and the least without. -/
theorem witness_EntAcCodesTheExaminedEntries :
    let s := entropyState (entries [(1, 1023), (2, -1023)]) 3 0
    let s' := entropyState (entries [(1, 1024)]) 2 0
    BitsHeld s ∧ WithinCap s ∧ (∀ v ∈ examined s.zz s.len.val, v.natAbs < 1024) ∧ WithinCap s' ∧
      (∃ v ∈ examined s'.zz s'.len.val, 1024 ≤ v.natAbs) :=
  ⟨bitsHeld_of (by decide), within_unbounded rfl, by decide +kernel, within_unbounded rfl, by decide +kernel⟩

/-- R246 (c): the 3 at position 3 and its absence, LEN 2. -/
theorem witness_EntriesFromLenOnAreDropped :
    let s := entropyState (entries [(0, 5), (3, 3)]) 2 0
    let zz := entries [(0, 5)]
    (∀ k : Fin 64, 1 ≤ k.val → k.val < s.len.val → zz[k] = s.zz[k]) ∧ zz[3] ≠ s.zz[3] ∧
      nextIs (exec .entAc s) (fun _ => true) = true := by decide +kernel

theorem witness_EntEobMarksShortBlocks :
    BitsHeld (entropyState (entries []) 63 0) ∧ WithinCap (entropyState (entries []) 63 0) ∧
      (entropyState (entries []) 63 0).len.val < 64 ∧ ¬(entropyState (entries []) 64 0).len.val < 64 :=
  ⟨bitsHeld_of (by decide), within_unbounded rfl, by decide +kernel, by decide +kernel⟩

theorem witness_AllZeroBlockIsSixBits :
    BitsHeld State.reset ∧ State.reset.outCap = none ∧ (∀ k : Fin 64, State.reset.zz[k] = 0) ∧ State.reset.len = 0 ∧
      State.reset.pred = 0 :=
  ⟨bitsHeld_of (by decide), rfl, by decide +kernel, rfl, rfl⟩

/-- An operation that completes, for BuffersHaveOneWriter and OperationsKeepToTheirState. -/
theorem witness_BuffersHaveOneWriter :
    nextIs (exec .zigzag State.reset) (fun t => decide (t.phase = .entDc)) = true ∧ Instr.zigzag ≠ .quant := by
  decide +kernel

theorem witness_OperationsKeepToTheirState :
    nextIs (exec .blkNext (withParams 16 16 50)) (fun t => decide (t.blkX = 8)) = true ∧ Instr.blkNext ≠ .entDc ∧
      nextIs (exec .entAc State.reset) (fun t => decide (t.nz = 0)) = true := by decide +kernel

/-- In the block loop of an 8 by 8 image at quality 50, before ENT.DC: an all-zero block with its buffers. -/
def running : State :=
  { atPhase .entDc with
    width := 8, height := 8, quality := 50, qt := qtTable 50, outlen := 328, out := [(0, 0xFF), (1, 0xD8)] }

theorem running_inv : Inv running where
  fromHost := rfl
  coherent := rfl
  errors := by decide +kernel
  noInfo := fun _ => rfl
  bits := by decide +kernel
  imgForm := rfl
  outForm := rfl
  capacity := within_unbounded (s := running) rfl
  aligned := by decide +kernel
  dimensions := fun _ => by decide +kernel
  origin := by decide +kernel
  inside := fun _ => by decide +kernel
  table := fun _ => ⟨by decide +kernel, rfl⟩

theorem running_valueInv : ValueInv running where
  predRange := by decide +kernel
  nzRange := by decide +kernel
  coefHeld := by decide +kernel
  quoHeld := by decide +kernel
  zzHeld := fun _ => by decide +kernel

theorem running_streamInv : StreamInv running where
  offsets := by decide +kernel
  soi := fun _ => by unfold startsWithSoi; decide +kernel
  segment := fun _ => ⟨by decide, fun a h1 h2 => absurd h2 (by have : running.outlen = 328 := rfl; omega)⟩
  finished := fun h => absurd h (by decide)

/-- For EveryStepKeepsTheInvariant, EveryStepKeepsTheRanges, EveryStepKeepsTheStreamShape, NoStepFaults and EveryEncodeEnds. -/
theorem witness_invariants : Inv running ∧ ValueInv running ∧ StreamInv running ∧ running.inputs = [] ∧
    running.status = .busy ∧ nextIs (step running) (fun t => decide (t.phase = .entAc ∧ t.accn = 2)) = true :=
  ⟨running_inv, running_valueInv, running_streamInv, rfl, rfl, by decide +kernel⟩

/-- The end of the stream before its last operation. -/
theorem witness_EveryStepKeepsTheStreamShape_end :
    nextIs (step { running with phase := .hdrEoi }) (fun t => decide (t.phase = .done ∧ t.outlen = 330)) = true := by
  decide +kernel

/-- The state right after ENCODE. -/
def started (s : State) : State :=
  match exec (.encode 0) s with
  | .next u => u
  | _ => s

/-- An 8 by 8 image at quality 1 and at quality 97, unbounded; and a buffer that holds nothing. -/
theorem witness_EncodeTakesElevenPlusEightN :
    Ready (withParams 8 8 1) ∧ CanSucceed (withParams 8 8 1) ∧ CanSucceed (withParams 65528 65528 97) ∧ Fits (withParams 8 8 1) ∧
      Started (withParams 8 8 1) (started (withParams 8 8 1)) :=
  ⟨⟨rfl, rfl⟩, by unfold CanSucceed; decide +kernel, by unfold CanSucceed; decide +kernel, fits_unbounded rfl, rfl⟩

theorem witness_EncodeResultInClosedForm :
    let s : State := { withParams 8 8 50 with outCap := some 0 }
    Ready s ∧ CanSucceed s ∧ Started s (started s) ∧ ¬Fits s :=
  ⟨⟨rfl, rfl⟩, by unfold CanSucceed; decide +kernel, rfl, fun h => by have := h 0 rfl; simp [encodeBytes] at this⟩

/-- Two machines that agree on the inputs and differ in what they hold. -/
theorem witness_EncodeDependsOnItsInputsOnly :
    let s := withParams 8 8 50
    let s' := { withParams 8 8 50 with pred := 7, qt := qtTable 1, outlen := 5, nz := 3, status := .done, phase := .done }
    Ready s ∧ Ready s' ∧ s.width = s'.width ∧ s.height = s'.height ∧ s.quality = s'.quality ∧ s.outCap = s'.outCap ∧
      (∀ a, a < s.width.toNat * s.height.toNat →
        s.img.read Config.imgPowerOn a = s'.img.read Config.imgPowerOn a) ∧
      Started s (started s) ∧ Started s' (started s') ∧ Runs 0 (started s) (started s) :=
  ⟨⟨rfl, rfl⟩, ⟨rfl, rfl⟩, rfl, rfl, rfl, rfl, fun _ _ => rfl, rfl, rfl, rfl⟩

theorem witness_HighQualityEncodesFail :
    (∀ q, let s : State := { withParams 8 8 q with outCap := some 328 }
      Ready s ∧ legalDimension s.width = true ∧ legalDimension s.height = true ∧ Started s (started s) ∧
        ∀ cap, s.outCap = some cap → 328 ≤ cap) ∧
      [(98 : BitVec 16), 99, 32767].all (fun q => decide (98 ≤ (withParams 8 8 q).quality.toInt)) = true :=
  ⟨fun _ => ⟨⟨rfl, rfl⟩, (by decide : legalDimension 8 = true), (by decide : legalDimension 8 = true), rfl,
    fun _ h => by cases h; decide⟩, by decide +kernel⟩

/-- Every register, a reserved offset, and the greatest offset. -/
theorem witness_RegReadsReturnTheRegisters :
    (∀ o, (State.reset.withInputs [.host (.regRead o .word)]).inputs = .host (.regRead o .word) :: []) ∧
      [(0x00 : BitVec 8), 0x04, 0x08, 0x0C, 0x10, 0x14, 0x18, 0x1C, 0x20, 0x24, 0xFC].all (fun o => decide (o.toNat % 4 = 0))
        = true :=
  ⟨fun _ => rfl, by decide⟩

theorem witness_RegWritesSetTheParameters :
    (∀ o, ((atPhase .fdct).withInputs [hostWrite o 2]).inputs = .host (.regWrite o .word 2) :: []) ∧
      [(0x00 : BitVec 8), 0x08, 0x0C, 0x10, 0x04, 0x24].all (fun o => decide (o.toNat % 4 = 0)) = true ∧
      (atPhase .fdct).status = .busy ∧ (atPhase .done).status ≠ .busy ∧ (2 : BitVec 32).getLsbD 0 = false ∧
      (0x04 : BitVec 8) ∉ [0x00#8, 0x08#8, 0x0C#8, 0x10#8] :=
  ⟨fun _ => rfl, by decide, rfl, by decide, by decide, by decide⟩

theorem witness_IllFormedRegAccessIsRefused :
    (State.reset.withInputs [.host (.regRead 0x04 .byte)]).inputs = .host (.regRead 0x04 .byte) :: [] ∧
      (State.reset.withInputs [hostWrite 0x06 1]).inputs = .host (.regWrite 0x06 .word 1) :: [] ∧ AccessWidth.byte ≠ .word ∧
      (0x06 : BitVec 8).toNat % 4 ≠ 0 := by decide +kernel

/-- The first and the last address IMG has, the first it has not and the last of 32 bits, while BUSY and while not; also for
ImgReadsReturnTheByte. -/
theorem witness_ImgWritesStoreOneByte :
    (∀ s addr, (State.withInputs s [.host (.imgWrite addr 9)]).inputs = .host (.imgWrite addr 9) :: []) ∧
      (∀ s addr, (State.withInputs s [.host (.imgRead addr)]).inputs = .host (.imgRead addr) :: []) ∧
      (0x00000000 : BitVec 32).toNat < 65528 * 65528 ∧ (0xFFF0003F : BitVec 32).toNat < 65528 * 65528 ∧
      65528 * 65528 ≤ (0xFFF00040 : BitVec 32).toNat ∧ 65528 * 65528 ≤ (0xFFFFFFFF : BitVec 32).toNat ∧
      (atPhase .fdct).status = .busy ∧ (atPhase .done).status ≠ .busy :=
  ⟨fun _ _ => rfl, fun _ _ => rfl, by decide +kernel, by decide +kernel, by decide +kernel, by decide +kernel, rfl, by decide⟩

theorem witness_ImgReadsReturnTheByte :
    (State.reset.withInputs [.host (.imgRead 0xFFF0003F)]).inputs = .host (.imgRead 0xFFF0003F) :: [] ∧
      (0xFFF0003F : BitVec 32).toNat < 65528 * 65528 ∧ 65528 * 65528 ≤ (0xFFF00040 : BitVec 32).toNat :=
  ⟨rfl, by decide +kernel, by decide +kernel⟩

/-- A byte read and a whole read, while DONE (below OUTLEN and at it) and while not. -/
theorem witness_OutIsReadableOnlyWhenDone :
    (∀ a ∈ [0, 1], ({ atPhase .done with outlen := 1 }.withInputs [.host (.outRead a)]).inputs = .host (.outRead a) :: []) ∧
      ((atPhase .done).withInputs [.host .rdOut]).inputs = .host .rdOut :: [] ∧
      (atPhase .done).status = .done ∧ (0 : Nat) < 1 ∧ (1 : Nat) ≤ 1 ∧ (atPhase .fdct).status ≠ .done := by decide

theorem witness_CollectReadsTheResultOrTheError :
    ((atPhase .done).withInputs [.host .collect]).inputs = .host .collect :: [] ∧ (atPhase .done).status = .done ∧
      ((atPhase .error).withInputs [.host .collect]).inputs = .host .collect :: [] ∧ (atPhase .error).status ≠ .done := by
  decide

end Sys2Proof.Tests
end

section
/-! # The rules that the proofs share

What an operation can answer, said once for every row of the opcode table (`exec_completed`), and what a step can be, said
once for every host input (`step_cases`). The proofs below go through these two and do not unfold the machine again. -/

namespace Sys2Proof.Machine

open Sys2Proof.Spec

/-! ## Answers -/

/-- What holds of an answer: a completed part of an operation leaves `P`, an exception records one of the errors of R340. Of a
model-level fault nothing is said. -/
def Res.Sat (P : State → Prop) : Res → Prop
  | .ok t => P t
  | .error (.raise e) => e.code ≠ .none
  | .error (.fault _) => True

section
variable {P Q : State → Prop} {r : Res} {s t : State}

theorem Res.Sat.mono (h : r.Sat P) (hPQ : ∀ u, P u → Q u) : r.Sat Q :=
  match r, h with
  | .ok u, h => hPQ u h
  | .error (.raise _), h => h
  | .error (.fault _), _ => trivial

theorem Res.Sat.bind {f : State → Res} (h : r.Sat P) (hf : ∀ u, P u → (f u).Sat Q) : Res.Sat Q (r.bind f) :=
  match r, h with
  | .ok u, h => hf u h
  | .error (.raise _), h => h
  | .error (.fault _), _ => trivial

theorem Res.Sat.map {g : State → State} (h : r.Sat fun u => P (g u)) : Res.Sat P (r.map g) :=
  match r, h with
  | .ok _, h => h
  | .error (.raise _), h => h
  | .error (.fault _), _ => trivial

theorem Res.Sat.goto {p : Phase} (h : r.Sat fun u => P (u.goto p)) : (r.goto p).Sat P := h.map

/-- A property that only some starting states give joins one that all give. -/
theorem Res.Sat.and_imp {a : Prop} (h : r.Sat P) (h' : a → r.Sat Q) : r.Sat fun u => P u ∧ (a → Q u) :=
  match r, h, h' with
  | .ok _, h, h' => ⟨h, h'⟩
  | .error (.raise _), h, _ => h
  | .error (.fault _), _, _ => trivial

/-- A next state that `r` answers meets `P`, unless it is the error entry from `s` (R348). -/
def NextOrError (s : State) (P : State → Prop) (r : Result) : Prop :=
  ∀ t, r = .next t → P t ∨ ∃ e : Raise, e.code ≠ .none ∧ t = s.takeError e

theorem Res.Sat.finish (h : r.Sat P) : NextOrError s P (finish s r) := by
  intro t hn
  rcases finish_next hn with rfl | ⟨e, rfl, rfl⟩
  · exact .inl h
  · exact .inr ⟨e, h, rfl⟩

theorem nextOrError_next (h : P t) : NextOrError s P (.next t) := fun _ hn => .inl (by cases hn; exact h)

end

/-! ## What an emission keeps -/

/-- OUT is in canonical form and within OUT_CAP (R10, R84). -/
def OutHeld (s : State) : Prop := Memory.wf s.out = true ∧ WithinCap s

/-- What `Inv` says of the stream: the buffered bits and OUT. -/
def StreamHeld (s : State) : Prop := BitsHeld s ∧ OutHeld s

theorem Emission.sat {s : State} {r : Res} (h : Emission s r) : r.Sat fun u => Emission s (.ok u) :=
  match r, h with
  | .ok _, h => h
  | .error (.raise _), .inl ⟨_, he⟩ => by cases he; exact ErrCode.noConfusion
  | .error (.fault _), _ => trivial

theorem OutHeld.pushOut {s : State} (h : OutHeld s) (b : Byte) (hf : s.outFull = false) : OutHeld (s.pushOut b) := by
  obtain ⟨hwf, hcap⟩ := h
  refine ⟨State.pushOut_wf s b hwf, fun cap hc => ?_⟩
  have hc' : s.outCap = some cap := hc
  have hlt : s.outlen < cap := by simpa [State.outFull, hc'] using hf
  exact hlt

/-- What every append with room keeps, `emit` keeps. -/
theorem emit_sat {P : State → Prop} (hP : ∀ (s : State) (b : Byte), P s → s.outFull = false → P (s.pushOut b))
    (bytes : List Byte) {s : State} (h : P s) : (emit bytes s).Sat P := by
  induction bytes generalizing s with
  | nil => exact h
  | cons b bytes ih =>
    refine Res.Sat.bind (P := P) ?_ fun u hu => ih hu
    cases hf : s.outFull with
    | true => rw [append_full hf]; exact ErrCode.noConfusion
    | false => rw [append_ok hf]; exact hP s b h hf

theorem emit_outHeld (bytes : List Byte) {s : State} (h : OutHeld s) : (emit bytes s).Sat OutHeld :=
  emit_sat (fun _ b hs hf => hs.pushOut b hf) bytes h

theorem emit_streamHeld (bytes : List Byte) {s : State} (h : StreamHeld s) : (emit bytes s).Sat StreamHeld :=
  emit_sat (fun _ b hs hf => ⟨hs.1, hs.2.pushOut b hf⟩) bytes h

theorem drain_outHeld (fuel : Nat) {s : State} (h : OutHeld s) : (drain fuel s).Sat OutHeld := by
  induction fuel generalizing s with
  | zero => exact h
  | succ fuel ih =>
    unfold drain
    split
    · exact Res.Sat.bind (P := OutHeld) (emit_outHeld _ h) fun u hu => ih hu
    · exact h

theorem bwWrite_streamHeld (bits nbits : Nat) {s : State} (h : StreamHeld s) : (bwWrite bits nbits s).Sat StreamHeld := by
  have hout : (bwWrite bits nbits s).Sat OutHeld := drain_outHeld _ (s := s.withBits _ _) h.2
  cases hr : bwWrite bits nbits s with
  | ok u => rw [hr] at hout; exact ⟨bwWrite_bits bits nbits s u h.1.2 hr, hout⟩
  | error e => rw [hr] at hout; cases e <;> exact hout

/-- `u` comes from `s` by an emission: the stream alone differs, the bytes below OUTLEN stand, and what `Inv` says of the stream
is kept. -/
def Emitted (s u : State) : Prop := Emission s (.ok u) ∧ (StreamHeld s → StreamHeld u)

theorem Emitted.refl (s : State) : Emitted s s := ⟨Emission.ok_refl s, id⟩

theorem Emitted.trans {s t u : State} (h : Emitted s t) (h' : Emitted t u) : Emitted s u := by
  obtain ⟨⟨ho, hl, hb⟩, hk⟩ := h
  obtain ⟨⟨ho', hl', hb'⟩, hk'⟩ := h'
  exact ⟨⟨ho.trans ho', hl.trans hl', fun a ha => (hb' a (by omega)).trans (hb a ha)⟩, hk' ∘ hk⟩

theorem Emitted.eq {s u : State} (h : Emitted s u) :
    u = { s with out := u.out, outlen := u.outlen, acc := u.acc, accn := u.accn } := h.1.1

theorem Res.Sat.emitted_bind {s : State} {r : Res} {f : State → Res} (h : r.Sat (Emitted s))
    (hf : ∀ u, (f u).Sat (Emitted u)) : Res.Sat (Emitted s) (r.bind f) :=
  h.bind fun u hu => (hf u).mono fun _ ht => hu.trans ht

theorem emit_emitted (bytes : List Byte) (s : State) : (emit bytes s).Sat (Emitted s) :=
  (emit_emission bytes s).sat.and_imp (emit_streamHeld bytes)

theorem append_emitted (b : Byte) (s : State) : (append b s).Sat (Emitted s) :=
  (append_emission b s).sat.and_imp fun h => by
    cases hf : s.outFull with
    | true => rw [append_full hf]; exact ErrCode.noConfusion
    | false => rw [append_ok hf]; exact ⟨h.1, h.2.pushOut b hf⟩

theorem bwWrite_emitted (bits nbits : Nat) (s : State) : (bwWrite bits nbits s).Sat (Emitted s) :=
  (bwWrite_emission bits nbits s).sat.and_imp (bwWrite_streamHeld bits nbits)

theorem writeCode_emitted (table : List (Nat × Codeword)) (symbol : Nat) (s : State) :
    (writeCode table symbol s).Sat (Emitted s) := by
  unfold writeCode
  split
  · trivial
  · exact bwWrite_emitted _ _ s

theorem writeMag_emitted (mag c : Nat) (s : State) : (writeMag mag c s).Sat (Emitted s) := by
  unfold writeMag
  split
  · exact bwWrite_emitted mag c s
  · exact Emitted.refl s

theorem writeDc_emitted (category mag : Nat) (s : State) : (writeDc category mag s).Sat (Emitted s) :=
  (writeCode_emitted _ category s).emitted_bind (writeMag_emitted mag category)

theorem writeAc_emitted (symbol mag : Nat) (s : State) : (writeAc symbol mag s).Sat (Emitted s) :=
  (writeCode_emitted _ symbol s).emitted_bind (writeMag_emitted mag (acSize symbol))

/-! ## The scan of ENT.AC -/

/-- The scan from `s` has come to `u`: NZ, which it counts, stands in `u`, and all else came by an emission. -/
def AcScanned (s u : State) : Prop := Emitted (s.withNz u.nz) u

theorem Emitted.acScanned {s u : State} (h : Emitted s u) : AcScanned s u := by
  have hnz : u.nz = s.nz := by rw [h.eq]
  unfold AcScanned
  rw [hnz]
  exact h

theorem Emitted.withNz {s u : State} (n : Nat) (h : Emitted s u) : Emitted (s.withNz n) (u.withNz n) := by
  obtain ⟨⟨ho, hl, hb⟩, hk⟩ := h
  exact ⟨⟨congrArg (State.withNz · n) ho, hl, hb⟩, hk⟩

theorem AcScanned.withNz {s u : State} (n : Nat) (h : AcScanned s u) : AcScanned s (u.withNz n) :=
  Emitted.withNz (s := s.withNz u.nz) n h

theorem AcScanned.trans {s t u : State} (h : AcScanned s t) (h' : AcScanned t u) : AcScanned s u :=
  (Emitted.withNz u.nz h).trans h'

theorem writeZrls_acScanned (fuel : Nat) (s : State) : (writeZrls fuel s).Sat (AcScanned s) := by
  induction fuel generalizing s with
  | zero => exact (Emitted.refl s).acScanned
  | succ fuel ih =>
    unfold writeZrls
    split
    · exact (writeAc_emitted 0xF0 0 s).bind fun u hu =>
        (ih _).mono fun _ ht => (hu.acScanned.withNz (u.nz - 16)).trans ht
    · exact (Emitted.refl s).acScanned

theorem writeEntry_acScanned (v : Int) (s : State) : (writeEntry v s).Sat fun u => AcScanned s u ∧ u.nz = 0 := by
  refine (writeZrls_acScanned _ s).bind fun u hu => ?_
  dsimp only
  split
  · trivial
  · exact (writeAc_emitted _ _ u).mono (fun t ht => ⟨(hu.trans ht.acScanned).withNz 0, rfl⟩) |>.map

/-- The scan leaves in NZ the zeros after the last nonzero entry (R236, R238). -/
theorem scanAc_acScanned (entries : List Int) (s : State) :
    (scanAc entries s).Sat fun u => AcScanned s u ∧ u.nz = trailingZeros s.nz entries := by
  induction entries generalizing s with
  | nil => exact ⟨(Emitted.refl s).acScanned, rfl⟩
  | cons v rest ih =>
    unfold scanAc trailingZeros
    split
    · exact (ih _).mono fun u hu => ⟨((Emitted.refl s).acScanned.withNz _).trans hu.1, hu.2⟩
    · exact (writeEntry_acScanned v s).bind fun u ⟨hu, hnz⟩ =>
        (ih u).mono fun t ⟨ht, hz⟩ => ⟨hu.trans ht, by rw [hz, hnz]⟩

end Sys2Proof.Machine
end

section
/-! # What an operation does, and what a step is -/

namespace Sys2Proof.Machine

open Sys2Proof.Spec

/-! ## Operations -/

/-- What a completed operation leaves. The header operations, the patterns and the coded items leave an emission; every other
row names its own result. -/
def Completed : Instr → State → State → Prop
  | .encode _, s, t =>
    t = if s.busy then s else { s with
      status := .busy, errCode := .none, errInfo := 0, outlen := 0, pred := 0, acc := 0, accn := 0, blkX := 0, blkY := 0,
      phase := .check, torn := [] }
  | .seqCheck, s, t => (legalDimension s.width = true ∧ legalDimension s.height = true) ∧ t = s.goto .qtb
  | .qtbBuild, s, t => 0 < s.quality.toInt ∧ t = { s with qt := qtTable s.quality.toInt }.goto .hdrSoi
  | .hdrSoi, s, t => ∃ u, Emitted s u ∧ t = u.goto .hdrApp0
  | .hdrApp0, s, t => ∃ u, Emitted s u ∧ t = u.goto .hdrDqt
  | .hdrDqt, s, t => ∃ u, Emitted s u ∧ t = u.goto .hdrSof0
  | .hdrSof0, s, t => ∃ u, Emitted s u ∧ t = u.goto .hdrDhtDc
  | .hdrDhtDc, s, t => ∃ u, Emitted s u ∧ t = u.goto .hdrDhtAc
  | .hdrDhtAc, s, t => ∃ u, Emitted s u ∧ t = u.goto .hdrSos
  | .hdrSos, s, t => ∃ u, Emitted s u ∧ t = u.goto .blkFetch
  | .blkFetch, s, t => (s.blkX < s.width ∧ s.blkY < s.height) ∧ t = { s with samp := fetchBlock s }.goto .fdct
  | .fdct, s, t => t = { s with coef := dctBlock s.samp }.goto .quant
  | .quant, s, t => zeroEntry s.qt = none ∧ t = { s with quo := quotients s }.goto .zigzag
  | .zigzag, s, t => t = { s with zz := scanned s.quo, len := countNonzero (scanned s.quo) }.goto .entDc
  | .entDc, s, t => ∃ u, Emitted (s.withPred (if 0 < s.len.val then s.zz[0] else 0)) u ∧ t = u.goto .entAc
  | .entAc, s, t => ∃ u, AcScanned s u ∧ u.nz = trailingZeros 0 (scannedEntries s) ∧ t = u.goto .entEob
  | .entEob, s, t => ∃ u, Emitted s u ∧ t = u.goto .blkNext
  | .blkNext, s, t =>
    t = if s.blkX + 8 = s.width then s.moveCursor 0 (s.blkY + 8) else s.moveCursor (s.blkX + 8) s.blkY
  | .bwFinalize, s, t => t = (s.withBits 0 0).goto .hdrEoi
  | .hdrEoi, s, t => ∃ u, Emitted s u ∧ t = u.seqDone
  | .seqDone, s, t => t = s.seqDone
  | _, s, t => Emitted s t

section
variable (s : State)

theorem execEncode_completed (d : BitVec 31) : NextOrError s (Completed (.encode d) s) (execEncode d s) := by
  rw [show execEncode d s = .next (if s.busy then s else _) from (apply_ite Host.Outcome.next _ _ _).symm]
  exact nextOrError_next rfl

theorem execSeqCheck_completed : NextOrError s (Completed .seqCheck s) (execSeqCheck s) := by
  refine Res.Sat.finish ?_
  split
  · rename_i h
    exact ⟨by simpa using h, rfl⟩
  · exact ErrCode.noConfusion

theorem execQtbBuild_completed : NextOrError s (Completed .qtbBuild s) (execQtbBuild s) := by
  refine Res.Sat.finish ?_
  split
  · exact ErrCode.noConfusion
  · rename_i h
    exact ⟨by omega, rfl⟩

theorem execBlkFetch_completed : NextOrError s (Completed .blkFetch s) (execBlkFetch s) := by
  refine Res.Sat.finish ?_
  split
  · rename_i h
    exact ⟨by simpa using h, rfl⟩
  · trivial

theorem execQuant_completed : NextOrError s (Completed .quant s) (execQuant s) := by
  refine Res.Sat.finish ?_
  split
  · exact ErrCode.noConfusion
  · rename_i h
    exact ⟨h, rfl⟩

/-- An emission and the move of PHASE after it. -/
theorem emitted_goto {s : State} {r : Res} {p : Phase} (h : r.Sat (Emitted s)) :
    (r.goto p).Sat fun t => ∃ u, Emitted s u ∧ t = u.goto p :=
  Res.Sat.goto (h.mono fun u hu => ⟨u, hu, rfl⟩)

theorem header_completed (bytes : List Byte) (p : Phase) :
    NextOrError s (fun t => ∃ u, Emitted s u ∧ t = u.goto p) (header bytes p s) :=
  (emitted_goto (emit_emitted bytes s)).finish

theorem execEntDc_completed : NextOrError s (Completed .entDc s) (execEntDc s) :=
  (emitted_goto (writeDc_emitted _ _ _)).finish

theorem execEntAc_completed : NextOrError s (Completed .entAc s) (execEntAc s) :=
  have hscan := scanAc_acScanned (scannedEntries s) (s.withNz 0)
  Res.Sat.finish (Res.Sat.goto (hscan.mono fun u ⟨hu, hz⟩ => ⟨u, hu, hz, rfl⟩))

theorem execEntEob_completed : NextOrError s (Completed .entEob s) (execEntEob s) := by
  refine (emitted_goto ?_).finish
  split
  · exact writeAc_emitted 0x00 0 s
  · exact Emitted.refl s

theorem execHdrEoi_completed : NextOrError s (Completed .hdrEoi s) (execHdrEoi s) :=
  Res.Sat.finish (Res.Sat.map ((emit_emitted _ s).mono fun u hu => ⟨u, hu, rfl⟩))

end

/-- Every row of the opcode table: a next state is what the completed operation leaves, or the error entry. -/
theorem exec_completed (i : Instr) (s : State) : NextOrError s (Completed i s) (exec i s) := by
  cases i with
  | encode d => exact execEncode_completed s d
  | seqCheck => exact execSeqCheck_completed s
  | qtbBuild => exact execQtbBuild_completed s
  | hdrSoi | hdrApp0 | hdrDqt | hdrSof0 | hdrDhtDc | hdrDhtAc | hdrSos => exact header_completed s _ _
  | blkFetch => exact execBlkFetch_completed s
  | quant => exact execQuant_completed s
  | entDc => exact execEntDc_completed s
  | entAc => exact execEntAc_completed s
  | entEob => exact execEntEob_completed s
  | hdrEoi => exact execHdrEoi_completed s
  | fdct | zigzag | blkNext | bwFinalize | seqDone => exact nextOrError_next rfl
  | bwWrite bits nbits => exact (bwWrite_emitted bits nbits s).finish
  | outAppend byte => exact (append_emitted byte s).finish
  | markerSoi | markerApp0 | markerDqt | markerSof0 | markerDht | markerSos | markerEoi | stuff =>
    exact (emit_emitted _ s).finish
  | dcCat0 | dcCat1 | dcCat2 | dcCat3 | dcCat4 | dcCat5 | dcCat6 | dcCat7 | dcCat8 | dcCat9 | dcCat10 | dcCat11 =>
    exact (writeDc_emitted _ _ s).finish
  | _ => exact (writeAc_emitted _ _ s).finish

/-! ## Steps -/

/-- The operation that a PHASE's code decodes to is the one of the transition table (R112, R312). -/
theorem decode_phaseCode (p : Phase) : (decode (.uop (phaseCode p))).toOption = (transition p).operation := by
  cases p <;> rfl

/-- The sequencer's turn: nothing, or while BUSY the operation of PHASE. -/
theorem sequencerTurn_cases {s t : State} (h : sequencerTurn s = .next t) :
    t = s ∨ s.status = .busy ∧ ∃ i, (transition s.phase).operation = some i ∧ exec i s = .next t := by
  have htable := decode_phaseCode s.phase
  unfold sequencerTurn at h
  split at h
  · rename_i hb
    split at h
    · rename_i i hi
      rw [hi] at htable
      exact .inr ⟨by simpa [State.busy] using hb, i, htable.symm, h⟩
    · cases h; exact .inl rfl
  · cases h; exact .inl rfl

/-- The only operation a REG write decodes to is ENCODE (R111). -/
theorem decode_host_ok {offset : BitVec 8} {data : BitVec 32} {i : Instr} (h : decode (.host offset data) = .ok i) :
    ∃ d, i = .encode d := by
  simp only [decode, decodeHost] at h
  split at h
  · cases h; exact ⟨_, rfl⟩
  · cases h

/-- `u` is `s` but for the host's part of the state, and if the inputs were a host's they still are. -/
def HostMoved (s u : State) : Prop :=
  u = { s with inputs := u.inputs, rdata := u.rdata, rdout := u.rdout } ∧
    (s.inputs.all Input.fromHost = true → u.inputs.all Input.fromHost = true)

theorem HostMoved.trans {s t u : State} (h : HostMoved s t) (h' : HostMoved t u) : HostMoved s u := by
  obtain ⟨he, hi⟩ := h
  obtain ⟨he', hi'⟩ := h'
  exact ⟨by rw [he', he], hi' ∘ hi⟩

theorem hostMoved_rdata (s : State) (d : BitVec 32) : HostMoved s { s with rdata := d } := ⟨rfl, id⟩

/-- An input has been taken. -/
theorem hostMoved_taken {s : State} {x : Input} {rest : List Input} (hin : s.inputs = x :: rest) :
    HostMoved s (s.withInputs rest) := by
  refine ⟨rfl, fun h => ?_⟩
  rw [hin, List.all_cons, Bool.and_eq_true] at h
  exact h.2

/-- What one step of a hardware run does to the block. -/
inductive BlockMove (u : State) : State → Prop
  /-- the block stays as it is -/
  | stays : BlockMove u u
  /-- the operation of PHASE runs (R312) -/
  | operation {i : Instr} {t : State} (hbusy : u.status = .busy) (hi : (transition u.phase).operation = some i)
      (h : exec i u = .next t) : BlockMove u t
  /-- the host writes ENCODE to CTRL (R111) -/
  | encode {t : State} (d : BitVec 31) (h : exec (.encode d) u = .next t) : BlockMove u t
  /-- the host writes a register (R35, R36) -/
  | regStore (offset : BitVec 8) (data : BitVec 32) : BlockMove u (regStore u offset data)
  /-- the host writes a byte of the image (R82) -/
  | imgStore (addr : Nat) (byte : Byte) : BlockMove u (imgStore u addr byte)
  /-- the reset input (R380) -/
  | reset : BlockMove u u.hardwareReset

/-- A state of the host's part alone, and then a move of the block. -/
def HostThenBlock (s t : State) : Prop := ∃ u, HostMoved s u ∧ BlockMove u t

theorem HostMoved.block {s t : State} (h : HostMoved s t) : HostThenBlock s t := ⟨t, h, .stays⟩

theorem BlockMove.host {s t : State} (h : BlockMove s t) : HostThenBlock s t := ⟨s, ⟨rfl, id⟩, h⟩

theorem HostMoved.then {s u t : State} (h : HostMoved s u) (h' : HostThenBlock u t) : HostThenBlock s t := by
  obtain ⟨v, hv, hb⟩ := h'
  exact ⟨v, h.trans hv, hb⟩

theorem sequencerTurn_move {s t : State} (h : sequencerTurn s = .next t) : HostThenBlock s t := by
  rcases sequencerTurn_cases h with rfl | ⟨hb, i, hi, he⟩
  · exact BlockMove.stays.host
  · exact (BlockMove.operation hb hi he).host

theorem pollStatus_move {s t : State} {rest : List Input} (hin : s.inputs = .wait :: rest)
    (h : pollStatus rest s = .next t) : HostThenBlock s t := by
  have hread := hostMoved_rdata s (regValue s 0x04)
  unfold pollStatus at h
  dsimp only at h
  split at h
  · exact hread.then (sequencerTurn_move h)
  · cases h
    exact (hread.trans (hostMoved_taken hin)).block

theorem hostAccess_move {s t : State} {access : HostAccess} (h : hostAccess access s = .next t) : HostThenBlock s t := by
  cases access with
  | regRead offset width =>
    simp only [hostAccess] at h
    split at h
    · cases h
    · cases h; exact (hostMoved_rdata s _).block
  | regWrite offset width data =>
    simp only [hostAccess] at h
    split at h
    · cases h
    · split at h
      · rename_i hd
        obtain ⟨d, rfl⟩ := decode_host_ok hd
        exact (BlockMove.encode d h).host
      · cases h; exact (BlockMove.regStore offset data).host
  | imgRead addr =>
    simp only [hostAccess] at h
    split at h
    · cases h; exact (hostMoved_rdata s _).block
    · cases h
  | imgWrite addr byte =>
    simp only [hostAccess] at h
    split at h
    · cases h; exact (BlockMove.imgStore addr.toNat byte).host
    · cases h
  | outRead addr =>
    simp only [hostAccess] at h
    split at h
    · cases h
    · split at h
      · cases h
      · cases h; exact (hostMoved_rdata s _).block
  | rdOut =>
    simp only [hostAccess] at h
    split at h
    · cases h
    · cases h; exact HostMoved.block ⟨rfl, id⟩
  | collect =>
    cases h
    refine HostMoved.block ⟨rfl, fun hall => ?_⟩
    rw [List.all_append, hall, Bool.and_true]
    split <;> rfl
  | reset => cases h; exact BlockMove.reset.host

/-- One step of a hardware run: the host's part moves on, then the block does what the input, or else PHASE, asks. -/
theorem step_cases {s t : State} (hin : s.inputs.all Input.fromHost = true) (h : step s = .next t) : HostThenBlock s t := by
  unfold step runNext at h
  split at h
  · exact sequencerTurn_move h
  · rename_i rest hi; exact (hostMoved_taken hi).then (sequencerTurn_move h)
  · rename_i access rest hi; exact (hostMoved_taken hi).then (hostAccess_move h)
  · rename_i rest hi; exact pollStatus_move hi h
  · rename_i op rest hi
    rw [hi] at hin
    cases hin

end Sys2Proof.Machine
end

section
/-! # The invariant of control, cursor, accumulator and memories -/

namespace Sys2Proof.Machine

open Sys2Proof.Spec

variable {s t u : State} {p q : Phase}

/-! ## What PHASE asks of the state -/

/-- What `Inv` asks of a state because PHASE stands at `p`. -/
structure PhaseInv (p : Phase) (s : State) : Prop where
  dimensions : p ∈ checkedPhases → legalDimension s.width = true ∧ legalDimension s.height = true
  origin : p ∈ headPhases → s.blkX = 0 ∧ s.blkY = 0
  inside : p ∈ blockPhases → s.blkX < s.width ∧ s.blkY < s.height
  table : p ∈ tablePhases → 0 < s.quality.toInt ∧ s.qt = qtTable s.quality.toInt

theorem Inv.phaseInv (hs : Inv s) : PhaseInv s.phase s := ⟨hs.dimensions, hs.origin, hs.inside, hs.table⟩

theorem Inv.streamHeld (hs : Inv s) : StreamHeld s := ⟨hs.bits, hs.outForm, hs.capacity⟩

/-- A phase of no further part of the run asks no more. -/
theorem PhaseInv.next (h : PhaseInv p s)
    (hpart : ∀ part ∈ [checkedPhases, headPhases, blockPhases, tablePhases], q ∈ part → p ∈ part) : PhaseInv q s where
  dimensions hq := h.dimensions (hpart checkedPhases (by simp) hq)
  origin hq := h.origin (hpart headPhases (by simp) hq)
  inside hq := h.inside (hpart blockPhases (by simp) hq)
  table hq := h.table (hpart tablePhases (by simp) hq)

/-- IDLE, DONE and ERROR ask nothing. -/
theorem phaseInv_quiescent (hq : statusOfPhase p ≠ .busy) (s : State) : PhaseInv p s := by
  have hnot : ∀ part ∈ [checkedPhases, headPhases, blockPhases, tablePhases], p ∉ part := by
    revert hq
    cases p <;> decide
  exact ⟨fun h => absurd h (hnot _ (by simp)), fun h => absurd h (hnot _ (by simp)), fun h => absurd h (hnot _ (by simp)),
    fun h => absurd h (hnot _ (by simp))⟩

/-! ## Moves of a busy block -/

/-- `t` differs from `s` in what the operations of a block work on: PHASE, the cursor, the buffers, the stream. -/
def WorkOnly (s t : State) : Prop :=
  t = { s with
    phase := t.phase, blkX := t.blkX, blkY := t.blkY, qt := t.qt, samp := t.samp, coef := t.coef, quo := t.quo, zz := t.zz,
    len := t.len, pred := t.pred, nz := t.nz, acc := t.acc, accn := t.accn, out := t.out, outlen := t.outlen }

theorem Inv.work (hs : Inv s) (h : WorkOnly s t) (hp : t.phase = p) (hst : statusOfPhase p = s.status)
    (hcursor : t.blkX.toNat % 8 = 0 ∧ t.blkY.toNat % 8 = 0) (hheld : StreamHeld t) (hpart : PhaseInv p t) : Inv t where
  fromHost := by rw [h]; exact hs.fromHost
  coherent := by rw [hp, hst, h]
  errors := by rw [h]; exact hs.errors
  noInfo := by rw [h]; exact hs.noInfo
  bits := hheld.1
  imgForm := by rw [h]; exact hs.imgForm
  outForm := hheld.2.1
  capacity := hheld.2.2
  aligned := hcursor
  dimensions := by rw [hp]; exact hpart.dimensions
  origin := by rw [hp]; exact hpart.origin
  inside := by rw [hp]; exact hpart.inside
  table := by rw [hp]; exact hpart.table

/-- `t` differs from `s` in PHASE, the stream and the buffers past QT. -/
def DataOnly (s t : State) : Prop :=
  t = { s with
    phase := t.phase, samp := t.samp, coef := t.coef, quo := t.quo, zz := t.zz, len := t.len, pred := t.pred, nz := t.nz,
    acc := t.acc, accn := t.accn, out := t.out, outlen := t.outlen }

/-- A move that leaves the cursor and the table asks only that PHASE may stand where it goes. -/
theorem Inv.data (hs : Inv s) (h : DataOnly s t) (hp : t.phase = p) (hst : statusOfPhase p = s.status) (hheld : StreamHeld t)
    (hpart : PhaseInv p s) : Inv t := by
  have hpart' : PhaseInv p t := by
    rw [h]
    exact ⟨hpart.dimensions, hpart.origin, hpart.inside, hpart.table⟩
  exact hs.work (by unfold WorkOnly; rw [h]) hp hst (by rw [h]; exact hs.aligned) hheld hpart'

theorem Inv.emitted (hs : Inv s) (hu : Emitted s u) : Inv u :=
  hs.data (by unfold DataOnly; rw [hu.eq]) (by rw [hu.eq]) hs.coherent.symm (hu.2 hs.streamHeld) hs.phaseInv

theorem Inv.data_goto (hs : Inv s) (h : DataOnly s u) (hst : statusOfPhase p = s.status) (hheld : StreamHeld u)
    (hpart : PhaseInv p s) : Inv (u.goto p) :=
  hs.data (by unfold DataOnly; rw [h]; rfl) rfl hst hheld hpart

/-! ## The ends of a run -/

theorem Inv.takeError (hs : Inv s) {e : Raise} (he : e.code ≠ .none) : Inv (s.takeError e) :=
  have hpart := phaseInv_quiescent (p := .error) (by decide) (s.takeError e)
  { hs with
    coherent := rfl
    errors := ⟨fun h => absurd h he, fun h => absurd rfl h⟩
    noInfo := fun h => absurd h he
    dimensions := hpart.dimensions
    origin := hpart.origin
    inside := hpart.inside
    table := hpart.table }

theorem Inv.seqDone (hs : Inv s) (hbusy : s.status = .busy) : Inv s.seqDone :=
  have hpart := phaseInv_quiescent (p := .done) (by decide) s.seqDone
  have hnone : s.errCode = .none := hs.errors.mpr (by rw [hbusy]; decide)
  { hs with
    coherent := rfl
    errors := ⟨fun _ => nofun, fun _ => hnone⟩
    dimensions := hpart.dimensions
    origin := hpart.origin
    inside := hpart.inside
    table := hpart.table }

/-! ## The cursor -/

/-- An anchor inside a legal dimension stays inside when it moves on, unless it reaches the end (R183). -/
theorem anchor_add_lt {b d : BitVec 16} (hb : b.toNat % 8 = 0) (hd : legalDimension d = true) (hlt : b < d)
    (hne : b + 8 ≠ d) : b + 8 < d := by
  have hd8 : d.toNat % 8 = 0 := by
    simp only [legalDimension, Bool.and_eq_true, decide_eq_true_eq] at hd
    exact hd.2
  bv_omega

theorem anchor_add_aligned {b : BitVec 16} (hb : b.toNat % 8 = 0) : (b + 8).toNat % 8 = 0 := by
  bv_omega

/-- The cursor moves to an anchor that is inside the image, or below its last block row. -/
theorem Inv.moveCursor (hs : Inv s) (hp : s.phase = .blkNext) {x y : BitVec 16}
    (hcursor : x.toNat % 8 = 0 ∧ y.toNat % 8 = 0) (hx : x < s.width) (hy : y ≠ s.height → y < s.height) :
    Inv (s.moveCursor x y) := by
  have hbusy : s.status = .busy := by rw [hs.coherent, hp]; rfl
  have hpart := hs.phaseInv
  rw [hp] at hpart
  refine hs.work rfl (State.goto_phase _ _) ?_ hcursor hs.streamHeld ?_
  · rw [hbusy]
    split <;> rfl
  · split
    · exact ⟨fun _ => hpart.dimensions (by decide), fun h => absurd h (by decide), fun h => absurd h (by decide),
        fun _ => hpart.table (by decide)⟩
    · rename_i hne
      exact ⟨fun _ => hpart.dimensions (by decide), fun h => absurd h (by decide), fun _ => ⟨hx, hy hne⟩,
        fun _ => hpart.table (by decide)⟩

theorem Inv.blkNext (hs : Inv s) (hp : s.phase = .blkNext) (h : Completed .blkNext s t) : Inv t := by
  have hpart := hs.phaseInv
  rw [hp] at hpart
  obtain ⟨hw, hh⟩ := hpart.dimensions (by decide)
  obtain ⟨hx, hy⟩ := hpart.inside (by decide)
  obtain ⟨hx8, hy8⟩ := hs.aligned
  rw [show t = _ from h]
  split
  · exact hs.moveCursor hp ⟨rfl, anchor_add_aligned hy8⟩ (by bv_omega) (anchor_add_lt hy8 hh hy)
  · rename_i hne
    exact hs.moveCursor hp ⟨anchor_add_aligned hx8, hy8⟩ (anchor_add_lt hx8 hw hx hne) fun _ => hy

/-! ## The operation of PHASE -/

/-- An emission and then a move of PHASE to where the run may stand. -/
theorem Inv.emitted_goto (hs : Inv s) (h : ∃ u, Emitted s u ∧ t = u.goto p) (hst : statusOfPhase p = s.status)
    (hpart : PhaseInv p s) : Inv t := by
  obtain ⟨u, hu, rfl⟩ := h
  exact hs.data_goto (by unfold DataOnly; rw [hu.eq]) hst (hu.2 hs.streamHeld) hpart

/-- The cursor is at the origin before the first block, and so inside a legal image. -/
theorem PhaseInv.firstBlock (h : PhaseInv .hdrSos s) : PhaseInv .blkFetch s where
  dimensions _ := h.dimensions (by decide)
  origin h' := absurd h' (by decide)
  inside _ := by
    obtain ⟨hw, hh⟩ := h.dimensions (by decide)
    obtain ⟨hx, hy⟩ := h.origin (by decide)
    simp only [legalDimension, Bool.and_eq_true, decide_eq_true_eq] at hw hh
    rw [hx, hy]
    bv_omega
  table _ := h.table (by decide)

theorem Inv.operation_completed {i : Instr} (hs : Inv s) (hi : (transition s.phase).operation = some i)
    (h : Completed i s t) : Inv t := by
  have hpart := hs.phaseInv
  have hst := hs.coherent
  cases hp : s.phase <;> rw [hp] at hi hpart hst <;> cases hi
  case check =>
    obtain ⟨hdim, rfl⟩ := h
    exact hs.data_goto rfl hst.symm hs.streamHeld
      ⟨fun _ => hdim, fun _ => hpart.origin (by decide), fun h => absurd h (by decide), fun h => absurd h (by decide)⟩
  case qtb =>
    obtain ⟨hq, rfl⟩ := h
    exact hs.work rfl (State.goto_phase _ _) hst.symm hs.aligned hs.streamHeld
      ⟨fun _ => hpart.dimensions (by decide), fun _ => hpart.origin (by decide), fun h => absurd h (by decide),
        fun _ => ⟨hq, rfl⟩⟩
  case hdrSoi | hdrApp0 | hdrDqt | hdrSof0 | hdrDhtDc | hdrDhtAc | entEob =>
    exact hs.emitted_goto h hst.symm (hpart.next (by decide))
  case hdrSos => exact hs.emitted_goto h hst.symm hpart.firstBlock
  case blkFetch | quant =>
    obtain ⟨-, rfl⟩ := h
    exact hs.data_goto rfl hst.symm hs.streamHeld (hpart.next (by decide))
  case fdct | zigzag =>
    rw [show t = _ from h]
    exact hs.data_goto rfl hst.symm hs.streamHeld (hpart.next (by decide))
  case entDc =>
    obtain ⟨u, hu, rfl⟩ := h
    exact hs.data_goto (by unfold DataOnly; rw [hu.eq]; rfl) hst.symm (hu.2 hs.streamHeld) (hpart.next (by decide))
  case entAc =>
    obtain ⟨u, hu, -, rfl⟩ := h
    exact hs.data_goto (by unfold DataOnly; rw [hu.eq]; rfl) hst.symm (hu.2 hs.streamHeld) (hpart.next (by decide))
  case blkNext => exact hs.blkNext hp h
  case bwFinal =>
    rw [show t = _ from h]
    exact hs.data_goto rfl hst.symm ⟨⟨Nat.zero_le _, Nat.one_pos⟩, hs.streamHeld.2⟩ (hpart.next (by decide))
  case hdrEoi =>
    obtain ⟨u, hu, rfl⟩ := h
    exact (hs.emitted hu).seqDone (by rw [hu.eq]; exact hst)

theorem Inv.operation {i : Instr} (hs : Inv s) (hi : (transition s.phase).operation = some i) (h : exec i s = .next t) :
    Inv t := by
  rcases exec_completed i s t h with hc | ⟨e, he, rfl⟩
  · exact hs.operation_completed hi hc
  · exact hs.takeError he

/-! ## The host's moves -/

theorem Inv.hostMoved (hs : Inv s) (h : HostMoved s u) : Inv u := by
  have hin := h.2 hs.fromHost
  rw [h.1] at hin ⊢
  exact { hs with fromHost := hin }

theorem Inv.encode (hs : Inv s) {d : BitVec 31} (h : exec (.encode d) s = .next t) : Inv t := by
  rcases exec_completed _ s t h with hc | ⟨e, he, rfl⟩
  · rw [show t = _ from hc]
    split
    · exact hs
    · exact
      { hs with
        coherent := rfl
        errors := ⟨fun _ => nofun, fun _ => rfl⟩
        noInfo := fun _ => rfl
        bits := ⟨Nat.zero_le _, Nat.one_pos⟩
        capacity := fun _ _ => Nat.zero_le _
        aligned := ⟨rfl, rfl⟩
        dimensions := fun h => absurd h (by decide : Phase.check ∉ checkedPhases)
        origin := fun _ => ⟨rfl, rfl⟩
        inside := fun h => absurd h (by decide : Phase.check ∉ blockPhases)
        table := fun h => absurd h (by decide : Phase.check ∉ tablePhases) }
  · exact hs.takeError he

/-- A REG write sets a parameter, and only while not BUSY, when PHASE asks nothing of the parameters. -/
theorem Inv.regStore (hs : Inv s) (offset : BitVec 8) (data : BitVec 32) : Inv (regStore s offset data) := by
  unfold Machine.regStore
  split
  · exact hs
  · rename_i hb
    have hq : statusOfPhase s.phase ≠ .busy := by
      rw [← hs.coherent]
      simpa [State.busy] using hb
    have hpart := phaseInv_quiescent hq
    split
    · exact { hs with dimensions := (hpart _).dimensions, origin := hs.origin, inside := (hpart _).inside, table := hs.table }
    · exact { hs with dimensions := (hpart _).dimensions, origin := hs.origin, inside := (hpart _).inside, table := hs.table }
    · exact { hs with dimensions := hs.dimensions, origin := hs.origin, inside := hs.inside, table := (hpart _).table }
    · exact hs

theorem Inv.imgStore (hs : Inv s) (addr : Nat) (byte : Byte) : Inv (imgStore s addr byte) := by
  have hform := imgStore_wf s addr byte hs.imgForm
  rw [imgStore_eq] at hform ⊢
  exact { hs with imgForm := hform }

theorem Inv.hardwareReset (hs : Inv s) : Inv s.hardwareReset :=
  have hpart := phaseInv_quiescent (p := .idle) (by decide) s.hardwareReset
  { fromHost := hs.fromHost
    coherent := rfl
    errors := ⟨fun _ => nofun, fun _ => rfl⟩
    noInfo := fun _ => rfl
    bits := ⟨Nat.zero_le _, Nat.one_pos⟩
    imgForm := hs.imgForm
    outForm := rfl
    capacity := fun _ _ => Nat.zero_le _
    aligned := ⟨rfl, rfl⟩
    dimensions := hpart.dimensions
    origin := hpart.origin
    inside := hpart.inside
    table := hpart.table }

theorem Inv.blockMove (hs : Inv s) (h : BlockMove s t) : Inv t := by
  cases h with
  | stays => exact hs
  | operation _ hi h => exact hs.operation hi h
  | encode d h => exact hs.encode h
  | regStore offset data => exact hs.regStore offset data
  | imgStore addr byte => exact hs.imgStore addr byte
  | reset => exact hs.hardwareReset

/-- Settles O43: a step is a move of the host's part and then one move of the block, and each keeps `Inv`. -/
theorem everyStepKeepsTheInvariant : Obligations.EveryStepKeepsTheInvariant := by
  intro s t hs h
  obtain ⟨u, hu, hb⟩ := step_cases hs.fromHost h
  exact (hs.hostMoved hu).blockMove hb

end Sys2Proof.Machine
end

section
/-! # What an operation leaves unchanged -/

namespace Sys2Proof.Machine

open Sys2Proof.Spec

variable {s t u : State} {i : Instr}

/-- What operation `i` leaves as it was: the parameters, the image, the capacity and the host's part always; each buffer, the
cursor, PRED and NZ unless `i` is their writer (10_state.md section 4). -/
structure Frame (i : Instr) (s t : State) : Prop where
  width : t.width = s.width
  height : t.height = s.height
  quality : t.quality = s.quality
  img : t.img = s.img
  outCap : t.outCap = s.outCap
  inputs : t.inputs = s.inputs
  rdata : t.rdata = s.rdata
  rdout : t.rdout = s.rdout
  draws : t.draws = s.draws
  torn : (∀ d, i ≠ .encode d) → t.torn = s.torn
  cursor : (∀ d, i ≠ .encode d) → i ≠ .blkNext → t.blkX = s.blkX ∧ t.blkY = s.blkY
  pred : (∀ d, i ≠ .encode d) → i ≠ .entDc → t.pred = s.pred
  nz : i ≠ .entAc → t.nz = s.nz
  qt : i ≠ .qtbBuild → t.qt = s.qt
  samp : i ≠ .blkFetch → t.samp = s.samp
  coef : i ≠ .fdct → t.coef = s.coef
  quo : i ≠ .quant → t.quo = s.quo
  zz : i ≠ .zigzag → t.zz = s.zz
  len : i ≠ .zigzag → t.len = s.len

/-- `t` differs from `s` in the stream, PHASE, STATUS and the error registers only. -/
def StreamAndControl (s t : State) : Prop :=
  t = { s with
    status := t.status, errCode := t.errCode, errInfo := t.errInfo, phase := t.phase, acc := t.acc, accn := t.accn,
    out := t.out, outlen := t.outlen }

theorem StreamAndControl.frame (h : StreamAndControl s t) : Frame i s t := by
  rw [h]
  constructor <;> simp

theorem Emitted.streamAndControl (h : Emitted s u) : StreamAndControl s u := by
  unfold StreamAndControl
  rw [h.eq]

theorem Emitted.goto_frame {p : Phase} (h : ∃ u, Emitted s u ∧ t = u.goto p) : Frame i s t := by
  obtain ⟨u, hu, rfl⟩ := h
  refine StreamAndControl.frame ?_
  unfold StreamAndControl
  rw [hu.eq]
  rfl

theorem completed_frame (h : Completed i s t) : Frame i s t := by
  cases i with
  | encode d =>
    rw [show t = _ from h]
    split <;> constructor <;> simp
  | seqCheck =>
    obtain ⟨-, rfl⟩ := h
    exact StreamAndControl.frame rfl
  | hdrSoi | hdrApp0 | hdrDqt | hdrSof0 | hdrDhtDc | hdrDhtAc | hdrSos | entEob => exact Emitted.goto_frame h
  | qtbBuild | blkFetch | quant =>
    obtain ⟨-, rfl⟩ := h
    constructor <;> simp
  | fdct | zigzag =>
    rw [show t = _ from h]
    constructor <;> simp
  | entDc =>
    obtain ⟨u, hu, rfl⟩ := h
    rw [hu.eq]
    constructor <;> simp
  | entAc =>
    obtain ⟨u, hu, -, rfl⟩ := h
    rw [Emitted.eq hu]
    constructor <;> simp
  | blkNext =>
    rw [show t = _ from h]
    split <;> constructor <;> simp [State.moveCursor]
  | bwFinalize | seqDone =>
    rw [show t = _ from h]
    exact StreamAndControl.frame rfl
  | hdrEoi =>
    obtain ⟨u, hu, rfl⟩ := h
    refine StreamAndControl.frame ?_
    unfold StreamAndControl
    rw [hu.eq]
    rfl
  | _ => exact (Emitted.streamAndControl h).frame

theorem exec_frame (h : exec i s = .next t) : Frame i s t := by
  rcases exec_completed i s t h with hc | ⟨e, -, rfl⟩
  · exact completed_frame hc
  · exact StreamAndControl.frame rfl

/-- Settles O41: read off the frame of each operation. -/
theorem buffersHaveOneWriter : Obligations.BuffersHaveOneWriter := fun _ _ _ h =>
  have hf := exec_frame h
  ⟨hf.qt, hf.samp, hf.coef, hf.quo, fun hi => ⟨hf.zz hi, hf.len hi⟩⟩

/-- Settles O42: read off the frame of each operation. -/
theorem operationsKeepToTheirState : Obligations.OperationsKeepToTheirState := fun _ _ _ h =>
  have hf := exec_frame h
  ⟨⟨hf.width, hf.height, hf.quality, hf.img, hf.outCap, hf.inputs, hf.rdata, hf.rdout, hf.draws⟩,
    fun hi => ⟨hf.torn hi, hf.cursor hi, hf.pred hi⟩, hf.nz⟩

end Sys2Proof.Machine
end

section
/-! # The real numbers that COEF and QUO hold

The arithmetic of Machine/Exact.lean against the reals (R198): the value of each operation on combinations of cosines, the
exact sign by the tower of square roots, and truncation (R215). -/

namespace Sys2Proof

open Sys2Proof.Spec

/-! ## Cosines of multiples of π/16 -/

/-- `cos(mπ/16)`. -/
noncomputable def cos16 (m : ℕ) : ℝ := Real.cos (m * Real.pi / 16)

@[simp] theorem cos16_zero : cos16 0 = 1 := by simp [cos16]

@[simp] theorem cos16_eight : cos16 8 = 0 := by
  rw [cos16, show ((8 : ℕ) : ℝ) * Real.pi / 16 = Real.pi / 2 by push_cast; ring, Real.cos_pi_div_two]

theorem cos16_add_period (m n : ℕ) : cos16 (m + 32 * n) = cos16 m := by
  have hangle : ((m + 32 * n : ℕ) : ℝ) * Real.pi / 16 = m * Real.pi / 16 + n * (2 * Real.pi) := by
    push_cast
    ring
  rw [cos16, cos16, hangle, Real.cos_add_nat_mul_two_pi]

theorem cos16_mod (m : ℕ) : cos16 (m % 32) = cos16 m := by
  conv_rhs => rw [← Nat.mod_add_div m 32, cos16_add_period]

theorem cos16_reflect {m : ℕ} (h : m ≤ 32) : cos16 (32 - m) = cos16 m := by
  have hangle : ((32 - m : ℕ) : ℝ) * Real.pi / 16 = 2 * Real.pi - m * Real.pi / 16 := by
    rw [Nat.cast_sub h]
    push_cast
    ring
  rw [cos16, cos16, hangle, Real.cos_two_pi_sub]

theorem cos16_supplement {m : ℕ} (h : m ≤ 16) : cos16 (16 - m) = -cos16 m := by
  have hangle : ((16 - m : ℕ) : ℝ) * Real.pi / 16 = Real.pi - m * Real.pi / 16 := by
    rw [Nat.cast_sub h]
    push_cast
    ring
  rw [cos16, cos16, hangle, Real.cos_pi_sub]

theorem cos16_pos {m : ℕ} (h : m < 8) : 0 < cos16 m := by
  have hm : (m : ℝ) < 8 := by exact_mod_cast h
  have hnonneg : 0 ≤ m * Real.pi := by positivity
  refine Real.cos_pos_of_mem_Ioo ⟨by linarith [Real.pi_pos], ?_⟩
  nlinarith [Real.pi_pos]

/-- Twice a product of cosines is the sum of two. -/
theorem cos16_mul (a b : ℕ) : 2 * cos16 a * cos16 b = cos16 (a + b) + cos16 (natDist a b) := by
  have hdist : cos16 (natDist a b) = Real.cos (a * Real.pi / 16 - b * Real.pi / 16) := by
    unfold natDist
    rcases le_total a b with h | h
    · rw [Nat.sub_eq_zero_of_le h, Nat.zero_add, cos16, Nat.cast_sub h, ← Real.cos_neg]
      ring_nf
    · rw [Nat.sub_eq_zero_of_le h, Nat.add_zero, cos16, Nat.cast_sub h]
      ring_nf
  have hsum : cos16 (a + b) = Real.cos (a * Real.pi / 16 + b * Real.pi / 16) := by
    rw [cos16]
    push_cast
    ring_nf
  rw [hdist, hsum, cos16, cos16, Real.cos_add, Real.cos_sub]
  ring

theorem cos16_sq (a : ℕ) : 2 * cos16 a * cos16 a = cos16 (2 * a) + 1 := by
  rw [cos16_mul, two_mul, natDist, Nat.sub_self, cos16_zero]

/-! ## Combinations of cosines -/

theorem cosValue_eq (a : Cos8) : cosValue a = a.c0 + a.c1 * cos16 1 + a.c2 * cos16 2 + a.c3 * cos16 3 + a.c4 * cos16 4
    + a.c5 * cos16 5 + a.c6 * cos16 6 + a.c7 * cos16 7 := by
  simp [cosValue, cos16]

@[simp] theorem cosValue_zero : cosValue Cos8.zero = 0 := by simp [cosValue_eq, Cos8.zero]

@[simp] theorem cosValue_add (a b : Cos8) : cosValue (a.add b) = cosValue a + cosValue b := by
  simp only [cosValue_eq, Cos8.add]
  push_cast
  ring

@[simp] theorem cosValue_smul (n : ℤ) (a : Cos8) : cosValue (Cos8.smul n a) = n * cosValue a := by
  simp only [cosValue_eq, Cos8.smul]
  push_cast
  ring

@[simp] theorem cosValue_neg (a : Cos8) : cosValue a.neg = -cosValue a := by
  simp only [cosValue_eq, Cos8.neg]
  push_cast
  ring

@[simp] theorem cosValue_sum (l : List Cos8) : cosValue (Cos8.sum l) = (l.map cosValue).sum := by
  induction l with
  | nil => exact cosValue_zero
  | cons a l ih => rw [List.map_cons, List.sum_cons, ← ih, ← cosValue_add]; rfl

theorem cosValue_unit {k : ℕ} (h : k ≤ 8) (v : ℤ) : cosValue (Cos8.unit k v) = v * cos16 k := by
  interval_cases k <;> simp [cosValue_eq, Cos8.unit]

theorem cosValue_cosTerm (m : ℕ) : cosValue (cosTerm m) = cos16 m := by
  have hlt : m % 32 < 32 := Nat.mod_lt _ (by decide)
  rw [← cos16_mod m]
  unfold cosTerm
  generalize m % 32 = r at hlt
  -- the angle folded into 0..16, which has the same cosine
  have hfold : (if 16 < r then 32 - r else r) ≤ 16 ∧ cos16 (if 16 < r then 32 - r else r) = cos16 r := by
    split
    · exact ⟨by omega, cos16_reflect (by omega)⟩
    · exact ⟨by omega, rfl⟩
  dsimp only
  generalize (if 16 < r then 32 - r else r) = f at hfold
  obtain ⟨hf, hcos⟩ := hfold
  rw [← hcos]
  split
  · rw [cosValue_unit (by omega)]; simp
  · rw [cosValue_unit (by omega), cos16_supplement hf]; simp

theorem cosValue_twiceCosCos (a b : ℕ) : cosValue (twiceCosCos a b) = 2 * cos16 a * cos16 b := by
  rw [twiceCosCos, cosValue_add, cosValue_cosTerm, cosValue_cosTerm, cos16_mul]

/-! ## The exact sign -/

/-- The sign of a real number as an integer. -/
noncomputable def signInt (x : ℝ) : ℤ := SignType.sign x

theorem signInt_of_pos {x : ℝ} (h : 0 < x) : signInt x = 1 := by simp [signInt, sign_pos h]
theorem signInt_of_neg {x : ℝ} (h : x < 0) : signInt x = -1 := by simp [signInt, sign_neg h]
@[simp] theorem signInt_zero : signInt 0 = 0 := by simp [signInt]

theorem signInt_mul (x y : ℝ) : signInt (x * y) = signInt x * signInt y := by simp [signInt, sign_mul]

theorem signInt_nonneg {x : ℝ} : 0 ≤ signInt x ↔ 0 ≤ x := by
  rcases lt_trichotomy x 0 with h | rfl | h
  · simp [signInt_of_neg h, h]
  · simp
  · simp [signInt_of_pos h, h.le]

theorem sign_eq_signInt (n : ℤ) : n.sign = signInt n := by
  rcases lt_trichotomy n 0 with h | rfl | h
  · rw [Int.sign_eq_neg_one_of_neg h, signInt_of_neg (by exact_mod_cast h)]
  · simp
  · rw [Int.sign_eq_one_of_pos h, signInt_of_pos (by exact_mod_cast h)]

/-- The sign of `a + b·r` from the signs of a, b and `a² - r²b²`: where a and b differ in sign, `a - b·r` has the sign of a. -/
theorem signOfRoot_eq {a b r : ℝ} (hr : 0 < r) :
    signOfRoot (signInt a) (signInt b) (signInt (a * a - r * r * (b * b))) = signInt (a + b * r) := by
  rw [show a * a - r * r * (b * b) = (a - b * r) * (a + b * r) by ring, signInt_mul]
  rcases lt_trichotomy b 0 with hb | rfl | hb
  · have hbr : b * r < 0 := mul_neg_of_neg_of_pos hb hr
    rcases lt_trichotomy a 0 with ha | rfl | ha
    · simp [signOfRoot, signInt_of_neg ha, signInt_of_neg hb, signInt_of_neg (add_neg ha hbr)]
    · simp [signOfRoot, signInt_of_neg hb, signInt_of_neg hbr]
    · simp [signOfRoot, signInt_of_pos ha, signInt_of_neg hb, signInt_of_pos (show 0 < a - b * r by linarith)]
  · simp [signOfRoot]
  · have hbr : 0 < b * r := mul_pos hb hr
    rcases lt_trichotomy a 0 with ha | rfl | ha
    · simp [signOfRoot, signInt_of_neg ha, signInt_of_pos hb, signInt_of_neg (show a - b * r < 0 by linarith)]
    · simp [signOfRoot, signInt_of_pos hb, signInt_of_pos hbr]
    · simp [signOfRoot, signInt_of_pos ha, signInt_of_pos hb, signInt_of_pos (add_pos ha hbr)]

/-- The value with √2 = 2cos(4π/16). -/
noncomputable def Root2.value (p : Root2) : ℝ := p.a + p.b * (2 * cos16 4)

/-- The value with y = 2cos(2π/16). -/
noncomputable def Root4.value (p : Root4) : ℝ := p.a.value + p.b.value * (2 * cos16 2)

/-- The value with x = 2cos(π/16). -/
noncomputable def Root8.value (p : Root8) : ℝ := p.a.value + p.b.value * (2 * cos16 1)

theorem sqrt2_sq : 2 * cos16 4 * (2 * cos16 4) = 2 := by linear_combination 2 * cos16_sq 4 + 2 * cos16_eight

theorem ySquared_value : Root4.ySquared.value = 2 * cos16 2 * (2 * cos16 2) := by
  have h := cos16_sq 2
  simp only [Root4.ySquared, Root2.value]
  push_cast
  linear_combination -2 * h

theorem xSquared_value : Root8.xSquared.value = 2 * cos16 1 * (2 * cos16 1) := by
  have h := cos16_sq 1
  simp only [Root8.xSquared, Root4.value, Root2.value]
  push_cast
  linear_combination -2 * h

theorem Root2.value_sub (p q : Root2) : (p.sub q).value = p.value - q.value := by
  simp only [value, Root2.sub]
  push_cast
  ring

theorem Root2.value_add (p q : Root2) : (p.add q).value = p.value + q.value := by
  simp only [value, Root2.add]
  push_cast
  ring

theorem Root2.value_mul (p q : Root2) : (p.mul q).value = p.value * q.value := by
  simp only [value, Root2.mul]
  push_cast
  linear_combination -(p.b * q.b : ℝ) * sqrt2_sq

theorem Root4.value_sub (p q : Root4) : (p.sub q).value = p.value - q.value := by
  simp only [value, Root4.sub, Root2.value_sub]
  ring

theorem Root4.value_mul (p q : Root4) : (p.mul q).value = p.value * q.value := by
  simp only [value, Root4.mul, Root2.value_add, Root2.value_mul, ySquared_value]
  ring

theorem Root2.sign_eq (p : Root2) : p.sign = signInt p.value := by
  have h : ((p.a * p.a - 2 * (p.b * p.b) : ℤ) : ℝ) = p.a * p.a - 2 * cos16 4 * (2 * cos16 4) * (p.b * p.b) := by
    rw [sqrt2_sq]
    push_cast
    ring
  rw [sign, sign_eq_signInt, sign_eq_signInt, sign_eq_signInt, h, signOfRoot_eq (mul_pos two_pos (cos16_pos (by decide)))]
  rfl

theorem Root4.sign_eq (p : Root4) : p.sign = signInt p.value := by
  rw [sign, Root2.sign_eq, Root2.sign_eq, Root2.sign_eq, Root2.value_sub, Root2.value_mul, Root2.value_mul, Root2.value_mul,
    ySquared_value, signOfRoot_eq (mul_pos two_pos (cos16_pos (by decide)))]
  rfl

theorem Root8.sign_eq (p : Root8) : p.sign = signInt p.value := by
  rw [sign, Root4.sign_eq, Root4.sign_eq, Root4.sign_eq, Root4.value_sub, Root4.value_mul, Root4.value_mul, Root4.value_mul,
    xSquared_value, signOfRoot_eq (mul_pos two_pos (cos16_pos (by decide)))]
  rfl

/-- The tower holds twice the combination: each cosine is a product of the roots by the product formula. -/
theorem Cos8.value_tower (a : Cos8) : a.tower.value = 2 * cosValue a := by
  have h3 := cos16_mul 2 1
  have h5 := cos16_mul 4 1
  have h6 := cos16_mul 4 2
  have h7 := cos16_mul 4 3
  simp only [natDist, Nat.reduceAdd, Nat.reduceSub] at h3 h5 h6 h7
  rw [cosValue_eq]
  simp only [tower, Root8.value, Root4.value, Root2.value]
  push_cast
  linear_combination (2 * (a.c3 - a.c5) + 4 * a.c7 * cos16 4 : ℝ) * h3 + (2 * a.c5 : ℝ) * h5 + (2 * a.c6 : ℝ) * h6
    + (2 * a.c7 : ℝ) * h7

theorem Cos8.sign_eq (a : Cos8) : a.sign = signInt (cosValue a) := by
  rw [sign, Root8.sign_eq, value_tower, signInt_mul, signInt_of_pos two_pos, one_mul]

/-! ## Truncation -/

theorem Cos8.atLeast_iff (a : Cos8) (den m : ℕ) : a.atLeast den m = true ↔ (m * den : ℝ) ≤ cosValue a := by
  rw [atLeast, decide_eq_true_iff, sign_eq, signInt_nonneg, cosValue_add, cosValue_unit (by decide), cos16_zero]
  push_cast
  constructor <;> intro h <;> linarith

/-- The greatest multiple of `den` below the value, when it is one of the `2^k` from `base` on. -/
theorem Cos8.floorBits_spec (a : Cos8) (den k base : ℕ) (hlo : (base * den : ℝ) ≤ cosValue a)
    (hhi : cosValue a < (base + 2 ^ k) * den) :
    (a.floorBits den k base * den : ℝ) ≤ cosValue a ∧ cosValue a < (a.floorBits den k base + 1) * den := by
  induction k generalizing base with
  | zero => exact ⟨hlo, by simpa [floorBits] using hhi⟩
  | succ k ih =>
    rw [floorBits]
    split
    · rename_i h
      have h' := (a.atLeast_iff den _).mp h
      refine ih _ h' ?_
      push_cast
      rw [pow_succ] at hhi
      linarith
    · rename_i h
      rw [atLeast_iff] at h
      push_cast at h
      exact ih _ hlo (by linarith)

theorem cosValue_le_bound (a : Cos8) : cosValue a ≤ a.bound := by
  have hterm : ∀ (n : ℤ) (m : ℕ), n * cos16 m ≤ (n.natAbs : ℝ) := fun n m => by
    rw [Nat.cast_natAbs, Int.cast_abs]
    calc n * cos16 m ≤ |n * cos16 m| := le_abs_self _
      _ = |(n : ℝ)| * |cos16 m| := abs_mul _ _
      _ ≤ |(n : ℝ)| := mul_le_of_le_one_right (abs_nonneg _) (Real.abs_cos_le_one _)
  have h0 := hterm a.c0 0
  rw [cos16_zero, mul_one] at h0
  rw [cosValue_eq]
  simp only [Cos8.bound, Cos8.toList, List.map_cons, List.map_nil, List.foldr_cons, List.foldr_nil]
  push_cast
  linarith [hterm a.c1 1, hterm a.c2 2, hterm a.c3 3, hterm a.c4 4, hterm a.c5 5, hterm a.c6 6, hterm a.c7 7]

theorem Cos8.floorDiv_eq (a : Cos8) (den : ℕ) (hden : 0 < den) (ha : 0 ≤ cosValue a) :
    (a.floorDiv den : ℤ) = ⌊cosValue a / den⌋ := by
  have hd : (0 : ℝ) < den := by exact_mod_cast hden
  have hbound : cosValue a < (0 + 2 ^ bitlen (a.bound / den)) * den := by
    have hlt : a.bound < 2 ^ bitlen (a.bound / den) * den :=
      (Nat.div_lt_iff_lt_mul hden).mp (Machine.lt_two_pow_bitlen _)
    rw [zero_add]
    exact (cosValue_le_bound a).trans_lt (by exact_mod_cast hlt)
  obtain ⟨hlo, hhi⟩ := a.floorBits_spec den (bitlen (a.bound / den)) 0 (by simpa using ha) (by exact_mod_cast hbound)
  symm
  rw [Int.floor_eq_iff, le_div_iff₀ hd, div_lt_iff₀ hd]
  exact ⟨by exact_mod_cast hlo, by exact_mod_cast hhi⟩

/-- Truncation is exact (R14, R198, R215). -/
theorem ExactReal.trunc_eq (x : ExactReal) : x.trunc = truncReal (value x) := by
  unfold trunc truncReal value
  split
  · rename_i h; simp [h]
  · rename_i h
    have hden : 0 < x.den := Nat.pos_of_ne_zero h
    have hd : (0 : ℝ) < x.den := by exact_mod_cast hden
    have hsign : x.num.sign < 0 ↔ ¬0 ≤ cosValue x.num := by rw [Cos8.sign_eq, ← not_le, signInt_nonneg]
    by_cases hx : 0 ≤ cosValue x.num
    · rw [if_neg (mt hsign.mp (not_not.mpr hx)), if_pos (div_nonneg hx hd.le), Cos8.floorDiv_eq _ _ hden hx]
    · have hneg : 0 ≤ cosValue x.num.neg := by rw [cosValue_neg]; linarith
      rw [if_pos (hsign.mpr hx), if_neg (not_le.mpr (div_neg_of_neg_of_pos (not_le.mp hx) hd)),
        Cos8.floorDiv_eq _ _ hden hneg, cosValue_neg, neg_div]

end Sys2Proof
end

section
/-! # The ranges of coefficients and entries

The DC coefficient is an eighth of the level-shifted sample sum. Every other is at most 1020 in magnitude (R197): its cosines
sum to 0, so samples may be measured from 127.5, and then Cauchy and Schwarz bound the sum. Division by a table without
zeros and truncation keep both ranges (R217). -/

namespace Sys2Proof.Machine

open Sys2Proof.Spec

/-! ## The transform as a sum over the reals -/

theorem value_dctCoef (samp : Vector Byte 64) (u v : Fin 8) :
    value (dctCoef samp u v)
      = 1 / 4 * ∑ p : Fin 8 × Fin 8, (shifted samp p.2 p.1 : ℝ) * (cos16 (dctAngle u p.2) * cos16 (dctAngle v p.1)) := by
  have hterm : ∀ y x : Fin 8, cosValue (Cos8.smul (shifted samp x y) (twiceCosCos (dctAngle u x) (dctAngle v y)))
      = 2 * ((shifted samp x y : ℝ) * (cos16 (dctAngle u x) * cos16 (dctAngle v y))) := fun y x => by
    rw [cosValue_smul, cosValue_twiceCosCos]
    ring
  rw [value, dctCoef, cosValue_sum, List.map_flatMap, List.flatMap_def, List.sum_flatten]
  simp only [List.map_map, Function.comp_def, hterm, ← Fin.sum_univ_def, ← Finset.mul_sum, Fintype.sum_prod_type]
  push_cast
  ring

/-- The cosines of a frequency other than 0 sum to 0. -/
theorem sum_cos16_dctAngle {k : Fin 8} (hk : k ≠ 0) : ∑ j : Fin 8, cos16 (dctAngle k j) = 0 := by
  have hsum : Cos8.sum ((List.finRange 8).map fun j : Fin 8 => cosTerm (dctAngle k j)) = Cos8.zero := by
    revert k
    decide
  have h := congrArg cosValue hsum
  rw [cosValue_sum, List.map_map, ← Fin.sum_univ_def, cosValue_zero] at h
  simpa [cosValue_cosTerm] using h

/-- The squares of the cosines of any frequency sum to 4. -/
theorem sum_cos16_dctAngle_sq (k : Fin 8) : ∑ j : Fin 8, cos16 (dctAngle k j) ^ 2 = 4 := by
  have hsum : Cos8.sum ((List.finRange 8).map fun j : Fin 8 => twiceCosCos (dctAngle k j) (dctAngle k j)) = Cos8.unit 0 8 := by
    revert k
    decide
  have h := congrArg cosValue hsum
  rw [cosValue_sum, List.map_map, ← Fin.sum_univ_def, cosValue_unit (by decide), cos16_zero] at h
  simp only [Function.comp_def, cosValue_twiceCosCos, mul_assoc, ← Finset.mul_sum, ← pow_two] at h
  push_cast at h
  linarith

theorem shifted_bounds (samp : Vector Byte 64) (x y : Fin 8) : -128 ≤ shifted samp x y ∧ shifted samp x y ≤ 127 := by
  unfold shifted
  have := samp[8 * y.val + x.val].isLt
  omega

/-! ## The coefficients -/

/-- The DC coefficient is an eighth of the level-shifted sum (R197). -/
theorem value_dctCoef_dc (samp : Vector Byte 64) :
    value (dctCoef samp 0 0) = ((∑ p : Fin 8 × Fin 8, shifted samp p.2 p.1 : ℤ) : ℝ) / 8 := by
  have h := cos16_sq 4
  rw [cos16_eight] at h
  rw [value_dctCoef]
  simp only [dctAngle, Fin.val_zero, if_true, ← Finset.sum_mul]
  push_cast
  linear_combination (∑ p : Fin 8 × Fin 8, (shifted samp p.2 p.1 : ℝ)) / 8 * h

theorem value_dctCoef_dc_bounds (samp : Vector Byte 64) :
    -1024 ≤ value (dctCoef samp 0 0) ∧ value (dctCoef samp 0 0) ≤ 1016 := by
  have hlo := Finset.card_nsmul_le_sum Finset.univ (fun p : Fin 8 × Fin 8 => shifted samp p.2 p.1) (-128)
    fun p _ => (shifted_bounds samp p.2 p.1).1
  have hhi := Finset.sum_le_card_nsmul Finset.univ (fun p : Fin 8 × Fin 8 => shifted samp p.2 p.1) 127
    fun p _ => (shifted_bounds samp p.2 p.1).2
  rw [value_dctCoef_dc]
  generalize (∑ p : Fin 8 × Fin 8, shifted samp p.2 p.1) = total at hlo hhi
  simp only [Finset.card_univ, Fintype.card_prod, Fintype.card_fin, nsmul_eq_mul] at hlo hhi
  obtain ⟨hlo', hhi'⟩ : -8192 ≤ total ∧ total ≤ 8128 := by omega
  have : (-8192 : ℝ) ≤ total ∧ (total : ℝ) ≤ 8128 := by exact_mod_cast And.intro hlo' hhi'
  constructor <;> linarith

/-- A coefficient other than DC does not see a constant added to every sample. -/
theorem value_dctCoef_centred (samp : Vector Byte 64) {u v : Fin 8} (huv : u ≠ 0 ∨ v ≠ 0) :
    value (dctCoef samp u v) = 1 / 4 * ∑ p : Fin 8 × Fin 8,
      ((shifted samp p.2 p.1 : ℝ) + 1 / 2) * (cos16 (dctAngle u p.2) * cos16 (dctAngle v p.1)) := by
  have hzero : ∑ p : Fin 8 × Fin 8, cos16 (dctAngle u p.2) * cos16 (dctAngle v p.1) = 0 := by
    rw [Fintype.sum_prod_type_right]
    simp only [← Finset.mul_sum, ← Finset.sum_mul]
    rcases huv with hu | hv
    · rw [sum_cos16_dctAngle hu, zero_mul]
    · rw [sum_cos16_dctAngle hv, mul_zero]
  simp only [value_dctCoef, add_mul, Finset.sum_add_distrib, ← Finset.mul_sum, hzero, mul_zero, add_zero]

/-- Every coefficient but DC is at most 1020 in magnitude (R197). -/
theorem abs_value_dctCoef_le (samp : Vector Byte 64) {u v : Fin 8} (huv : u ≠ 0 ∨ v ≠ 0) :
    |value (dctCoef samp u v)| ≤ 1020 := by
  have hkernel : ∑ p : Fin 8 × Fin 8, (cos16 (dctAngle u p.2) * cos16 (dctAngle v p.1)) ^ 2 = 16 := by
    rw [Fintype.sum_prod_type_right]
    simp only [mul_pow, ← Finset.mul_sum, ← Finset.sum_mul, sum_cos16_dctAngle_sq]
    norm_num
  have hsample : ∑ p : Fin 8 × Fin 8, ((shifted samp p.2 p.1 : ℝ) + 1 / 2) ^ 2 ≤ 1020 ^ 2 := by
    have h := Finset.sum_le_card_nsmul Finset.univ (fun p : Fin 8 × Fin 8 => ((shifted samp p.2 p.1 : ℝ) + 1 / 2) ^ 2)
      ((255 / 2) ^ 2) fun p _ => by
        obtain ⟨hlo, hhi⟩ := shifted_bounds samp p.2 p.1
        have hlo' : (-128 : ℝ) ≤ shifted samp p.2 p.1 := by exact_mod_cast hlo
        have hhi' : (shifted samp p.2 p.1 : ℝ) ≤ 127 := by exact_mod_cast hhi
        exact sq_le_sq' (by linarith) (by linarith)
    refine h.trans (le_of_eq ?_)
    simp only [Finset.card_univ, Fintype.card_prod, Fintype.card_fin, nsmul_eq_mul]
    norm_num
  have hcs := Finset.sum_mul_sq_le_sq_mul_sq Finset.univ (fun p : Fin 8 × Fin 8 => (shifted samp p.2 p.1 : ℝ) + 1 / 2)
    fun p => cos16 (dctAngle u p.2) * cos16 (dctAngle v p.1)
  rw [hkernel] at hcs
  rw [value_dctCoef_centred samp huv]
  refine abs_le_of_sq_le_sq ?_ (by norm_num)
  linarith

/-! ## Quotients and entries -/

theorem value_divNat (x : ExactReal) (n : ℕ) : value (x.divNat n) = value x / n := by
  rw [value, value, ExactReal.divNat, div_div]
  push_cast
  rfl

theorem le_truncReal {x : ℝ} {n : ℤ} (h : (n : ℝ) ≤ x) : n ≤ truncReal x := by
  unfold truncReal
  split
  · exact Int.le_floor.mpr h
  · have : ⌊-x⌋ ≤ -n := by
      have := Int.floor_mono (neg_le_neg h)
      rwa [← Int.cast_neg, Int.floor_intCast] at this
    omega

theorem truncReal_neg (x : ℝ) : truncReal (-x) = -truncReal x := by
  unfold truncReal
  rcases lt_trichotomy x 0 with h | rfl | h
  · rw [if_pos (by linarith), if_neg (by linarith), neg_neg]
  · simp
  · rw [if_neg (by linarith), if_pos h.le, neg_neg]

theorem truncReal_le {x : ℝ} {n : ℤ} (h : x ≤ n) : truncReal x ≤ n := by
  have hneg := le_truncReal (x := -x) (n := -n) (by push_cast; linarith)
  rw [truncReal_neg] at hneg
  omega

/-- A quotient by a positive number, truncated, stays in a range about 0. -/
theorem trunc_divNat_bounds {x : ExactReal} {d : ℕ} (hd : d ≠ 0) {lo hi : ℤ} (hlo : lo ≤ 0) (hhi : 0 ≤ hi)
    (h : (lo : ℝ) ≤ value x ∧ value x ≤ hi) : lo ≤ (x.divNat d).trunc ∧ (x.divNat d).trunc ≤ hi := by
  have hd1 : (1 : ℝ) ≤ d := by exact_mod_cast Nat.one_le_iff_ne_zero.mpr hd
  have hlo' : (lo : ℝ) ≤ 0 := by exact_mod_cast hlo
  have hhi' : (0 : ℝ) ≤ hi := by exact_mod_cast hhi
  rw [ExactReal.trunc_eq, value_divNat]
  refine ⟨le_truncReal ?_, truncReal_le ?_⟩
  · rw [le_div_iff₀ (by linarith)]
    nlinarith
  · rw [div_le_iff₀ (by linarith)]
    nlinarith

/-- The entries that ZIGZAG scans from a block's coefficients and a table without zeros. -/
theorem scanned_quotients {s : State} (hcoef : s.coef = dctBlock s.samp) (k : Fin 64) :
    (scanned (quotients s))[k] = ((dctCoef s.samp ⟨Rom.zigzag[k].val % 8, Nat.mod_lt _ (by decide)⟩
      ⟨Rom.zigzag[k].val / 8, by omega⟩).divNat s.qt[Rom.zigzag[k]].toNat).trunc := by
  simp [scanned, quotients, hcoef, dctBlock]

theorem zigzag_eq_zero_iff (k : Fin 64) : Rom.zigzag[k].val = 0 ↔ k.val = 0 := by
  revert k
  decide

/-- The ranges of the quantized entries (R217). -/
theorem scanned_bounds {s : State} (hcoef : s.coef = dctBlock s.samp) (hqt : zeroEntry s.qt = none) :
    (-1024 ≤ (scanned (quotients s))[0] ∧ (scanned (quotients s))[0] ≤ 1016) ∧
      ∀ k : Fin 64, 1 ≤ k.val → (scanned (quotients s))[k].natAbs ≤ 1020 := by
  have hd : ∀ i : Fin 64, s.qt[i].toNat ≠ 0 := fun i h => zeroEntry_none.mp hqt i (BitVec.eq_of_toNat_eq h)
  refine ⟨?_, fun k hk => ?_⟩
  · rw [show (scanned (quotients s))[0] = _ from scanned_quotients hcoef 0]
    exact trunc_divNat_bounds (hd _) (by decide) (by decide) (by exact_mod_cast value_dctCoef_dc_bounds s.samp)
  · have hz : Rom.zigzag[k].val ≠ 0 := fun h => by have := (zigzag_eq_zero_iff k).mp h; omega
    have huv : (⟨Rom.zigzag[k].val % 8, Nat.mod_lt _ (by decide)⟩ : Fin 8) ≠ 0 ∨
        (⟨Rom.zigzag[k].val / 8, by omega⟩ : Fin 8) ≠ 0 := by
      simp only [ne_eq, Fin.ext_iff, Fin.val_zero]
      omega
    have habs := abs_le.mp (abs_value_dctCoef_le s.samp huv)
    have h := trunc_divNat_bounds (hd Rom.zigzag[k]) (lo := -1020) (hi := 1020) (by decide) (by decide)
      (by exact_mod_cast habs)
    rw [scanned_quotients hcoef k]
    omega

end Sys2Proof.Machine
end

section
/-! # The ranges of the values, and what the buffers hold -/

namespace Sys2Proof.Machine

open Sys2Proof.Spec

variable {s t u : State} {p : Phase}

/-! ## NZ after the scan -/

theorem trailingZeros_le (gap : ℕ) (entries : List ℤ) :
    trailingZeros gap entries ≤ gap + entries.countP fun v => v = 0 := by
  induction entries generalizing gap with
  | nil => exact Nat.le_refl _
  | cons v rest ih =>
    have h := ih (if v = 0 then gap + 1 else 0)
    rw [trailingZeros]
    by_cases hv : v = 0
    · simp only [hv, if_true, List.countP_cons, decide_true] at h ⊢
      omega
    · simp only [hv, if_false, List.countP_cons, decide_false] at h ⊢
      omega

/-- Of the 64 entries those that are not nonzero are zero. -/
theorem countP_zero_add_countNonzero (zz : Vector ℤ 64) :
    (zz.toList.countP fun v => v = 0) + (countNonzero zz).val = 64 := by
  have h := List.length_eq_countP_add_countP (fun v : ℤ => decide (v = 0)) (l := zz.toList)
  simp only [Vector.length_toList, decide_eq_true_eq] at h
  simp only [countNonzero, ne_eq]
  omega

/-- The entries examined hold at most 62 zeros: there are at most 62 of them, or no entry of the block is zero (R238). -/
theorem countP_zero_scannedEntries_le (hlen : s.len = countNonzero s.zz) :
    ((scannedEntries s).countP fun v => v = 0) ≤ 62 := by
  have htotal := countP_zero_add_countNonzero s.zz
  rw [← hlen] at htotal
  have hzeros : ((scannedEntries s).countP fun v => v = 0) ≤ s.zz.toList.countP fun v => v = 0 :=
    List.Sublist.countP_le ((List.take_sublist _ _).trans (List.drop_sublist _ _))
  have hlength : ((scannedEntries s).countP fun v => v = 0) ≤ s.len.val - 1 :=
    List.countP_le_length.trans (List.length_take_le _ _)
  omega

/-! ## What PHASE asks of the buffers -/

/-- The phases at which a buffer still waits for its reader. -/
def heldPhases : List Phase := [.quant, .zigzag, .entDc, .entAc, .entEob]

/-- Where no buffer waits for its reader, only the ranges are asked. -/
theorem valueInv_of_notHeld (hp : t.phase ∉ heldPhases) (hpred : -1024 ≤ t.pred ∧ t.pred ≤ 1016) (hnz : t.nz ≤ 62) :
    ValueInv t := by
  simp only [heldPhases, List.mem_cons, List.not_mem_nil, or_false, not_or] at hp
  obtain ⟨hquant, hzigzag, hentDc, hentAc, hentEob⟩ := hp
  exact ⟨hpred, hnz, fun h => absurd h (by simp [hquant, hzigzag]), fun h => absurd h hzigzag,
    fun h => absurd h (by simp [hentDc, hentAc, hentEob])⟩

/-- What ZZ and LEN hold from ZIGZAG to the last of the entropy coder. -/
def EntriesHeld (s : State) : Prop :=
  (-1024 ≤ s.zz[0] ∧ s.zz[0] ≤ 1016) ∧ (∀ k : Fin 64, 1 ≤ k.val → s.zz[k].natAbs ≤ 1020) ∧ s.len = countNonzero s.zz

/-- In the entropy coder's phases the ranges and the entries are asked. -/
theorem valueInv_of_entries (hp : t.phase = .entDc ∨ t.phase = .entAc ∨ t.phase = .entEob)
    (hpred : -1024 ≤ t.pred ∧ t.pred ≤ 1016) (hnz : t.nz ≤ 62) (hheld : EntriesHeld t) : ValueInv t := by
  have hquant : t.phase ≠ .quant := by rcases hp with h | h | h <;> rw [h] <;> decide
  have hzigzag : t.phase ≠ .zigzag := by rcases hp with h | h | h <;> rw [h] <;> decide
  exact ⟨hpred, hnz, fun h => absurd h (by simp [hquant, hzigzag]), fun h => absurd h hzigzag, fun _ => hheld⟩

/-! ## The operation of PHASE -/

/-- A completed operation moves PHASE along the transition table (R312). -/
theorem completed_phase {i : Instr} (hi : (transition s.phase).operation = some i) (h : Completed i s t) :
    t.phase ∈ (transition s.phase).next := by
  cases hp : s.phase <;> rw [hp] at hi <;> cases hi
  case check | qtb | blkFetch | quant => obtain ⟨-, rfl⟩ := h; simp [transition]
  case hdrSoi | hdrApp0 | hdrDqt | hdrSof0 | hdrDhtDc | hdrDhtAc | hdrSos | entDc | entEob | hdrEoi =>
    obtain ⟨u, -, rfl⟩ := h; simp [transition]
  case fdct | zigzag | bwFinal => rw [show t = _ from h]; simp [transition]
  case entAc => obtain ⟨u, -, -, rfl⟩ := h; simp [transition]
  case blkNext =>
    rw [show t = _ from h]
    split <;> simp only [State.moveCursor, State.goto_phase, transition] <;> split <;> simp

/-- An operation that leaves PRED and NZ, and after which no buffer waits for its reader. -/
theorem ValueInv.notHeld {i : Instr} (hs : ValueInv s) (hi : (transition s.phase).operation = some i)
    (h : Completed i s t) (hnext : ∀ q ∈ (transition s.phase).next, q ∉ heldPhases) (hdc : i ≠ .entDc) (hac : i ≠ .entAc)
    (henc : ∀ d, i ≠ .encode d) : ValueInv t := by
  have hf := completed_frame h
  exact valueInv_of_notHeld (hnext _ (completed_phase hi h)) (hf.pred henc hdc ▸ hs.predRange) (hf.nz hac ▸ hs.nzRange)

theorem EntriesHeld.frame {i : Instr} (h : EntriesHeld s) (hf : Frame i s t) (hi : i ≠ .zigzag) : EntriesHeld t := by
  unfold EntriesHeld
  rw [hf.zz hi, hf.len hi]
  exact h

theorem ValueInv.operation_completed {i : Instr} (hs : ValueInv s) (hi : (transition s.phase).operation = some i)
    (h : Completed i s t) : ValueInv t := by
  have hf := completed_frame h
  have hphase := completed_phase hi h
  have hnot := hs.notHeld hi h
  cases hp : s.phase <;> rw [hp] at hi hphase hnot <;> cases hi
  case fdct =>
    rw [show t = _ from h]
    exact ⟨hs.predRange, hs.nzRange, fun _ => rfl, fun h => absurd h (by simp), fun h => absurd h (by simp)⟩
  case quant =>
    obtain ⟨hqt, rfl⟩ := h
    exact ⟨hs.predRange, hs.nzRange, fun _ => hs.coefHeld (.inl hp), fun _ => ⟨hqt, rfl⟩, fun h => absurd h (by simp)⟩
  case zigzag =>
    obtain ⟨hqt, hquo⟩ := hs.quoHeld hp
    obtain ⟨hdc, hac⟩ := scanned_bounds (hs.coefHeld (.inr hp)) hqt
    rw [show t = _ from h, hquo]
    exact valueInv_of_entries (.inl rfl) hs.predRange hs.nzRange ⟨hdc, hac, rfl⟩
  case entDc =>
    have hheld : EntriesHeld s := hs.zzHeld (.inl hp)
    have hpred : t.pred = if 0 < s.len.val then s.zz[0] else 0 := by
      obtain ⟨u, hu, rfl⟩ := h
      rw [hu.eq]
      rfl
    refine valueInv_of_entries (.inr (.inl (List.mem_singleton.mp hphase))) ?_ ?_ (hheld.frame hf (by decide))
    · rw [hpred]
      split
      · exact hheld.1
      · decide
    · rw [hf.nz (by decide)]
      exact hs.nzRange
  case entAc =>
    have hheld : EntriesHeld s := hs.zzHeld (.inr (.inl hp))
    have hnz : t.nz = trailingZeros 0 (scannedEntries s) := by
      obtain ⟨u, -, hz, rfl⟩ := h
      exact hz
    refine valueInv_of_entries (.inr (.inr (List.mem_singleton.mp hphase))) ?_ ?_ (hheld.frame hf (by decide))
    · rw [hf.pred (by simp) (by decide)]
      exact hs.predRange
    · have hle := trailingZeros_le 0 (scannedEntries s)
      have hzeros := countP_zero_scannedEntries_le hheld.2.2
      omega
  case check | qtb | hdrSoi | hdrApp0 | hdrDqt | hdrSof0 | hdrDhtDc | hdrDhtAc | hdrSos | blkFetch | entEob | blkNext
      | bwFinal | hdrEoi =>
    exact hnot (by decide) (by simp) (by simp) (by simp)

theorem ValueInv.takeError (hs : ValueInv s) (e : Raise) : ValueInv (s.takeError e) :=
  valueInv_of_notHeld (by decide : Phase.error ∉ heldPhases) hs.predRange hs.nzRange

theorem ValueInv.operation {i : Instr} (hs : ValueInv s) (hi : (transition s.phase).operation = some i)
    (h : exec i s = .next t) : ValueInv t := by
  rcases exec_completed i s t h with hc | ⟨e, -, rfl⟩
  · exact hs.operation_completed hi hc
  · exact hs.takeError e

/-! ## The host's moves -/

theorem ValueInv.hostMoved (hs : ValueInv s) (h : HostMoved s u) : ValueInv u := by
  rw [h.1]
  exact { hs with }

/-- The 0 that ENCODE and reset put in PRED is in its range. -/
theorem zero_predRange : (-1024 : ℤ) ≤ 0 ∧ (0 : ℤ) ≤ 1016 := by decide

theorem ValueInv.encode (hs : ValueInv s) {d : BitVec 31} (h : exec (.encode d) s = .next t) : ValueInv t := by
  rcases exec_completed _ s t h with hc | ⟨e, -, rfl⟩
  · rw [show t = _ from hc]
    split
    · exact hs
    · exact valueInv_of_notHeld (by decide : Phase.check ∉ heldPhases) zero_predRange hs.nzRange
  · exact hs.takeError e

theorem ValueInv.regStore (hs : ValueInv s) (offset : BitVec 8) (data : BitVec 32) : ValueInv (regStore s offset data) := by
  unfold Machine.regStore
  split
  · exact hs
  · split
    · exact { hs with }
    · exact { hs with }
    · exact { hs with }
    · exact hs

theorem ValueInv.imgStore (hs : ValueInv s) (addr : ℕ) (byte : Byte) : ValueInv (imgStore s addr byte) := by
  rw [imgStore_eq]
  exact { hs with }

theorem valueInv_hardwareReset (s : State) : ValueInv s.hardwareReset :=
  valueInv_of_notHeld (by decide : Phase.idle ∉ heldPhases) zero_predRange (Nat.zero_le _)

theorem ValueInv.blockMove (hs : ValueInv s) (h : BlockMove s t) : ValueInv t := by
  cases h with
  | stays => exact hs
  | operation _ hi h => exact hs.operation hi h
  | encode d h => exact hs.encode h
  | regStore offset data => exact hs.regStore offset data
  | imgStore addr byte => exact hs.imgStore addr byte
  | reset => exact valueInv_hardwareReset s

/-- Settles O44: a step is a move of the host's part and then one move of the block, and each keeps `ValueInv`. -/
theorem everyStepKeepsTheRanges : Obligations.EveryStepKeepsTheRanges := by
  intro s t hinv hs h
  obtain ⟨u, hu, hb⟩ := step_cases hinv.fromHost h
  exact (hs.hostMoved hu).blockMove hb

end Sys2Proof.Machine
end

section
/-! # Reset, and the host's accesses to REG and OUT -/

namespace Sys2Proof.Machine

open Sys2Proof.Spec

variable {s : State} {rest : List Input}

/-! ## Reset -/

/-- Settles O8: the reset state's fields and the step from it, by evaluation. -/
theorem resetValues : Obligations.ResetValues :=
  ⟨rfl, rfl, rfl, rfl, rfl, rfl, rfl, rfl, rfl, rfl, rfl, rfl, rfl, rfl, rfl, rfl⟩

theorem inv_reset : Inv State.reset :=
  have hpart := phaseInv_quiescent (p := .idle) (by decide) State.reset
  { fromHost := rfl
    coherent := rfl
    errors := by decide
    noInfo := fun _ => rfl
    bits := by decide
    imgForm := State.reset_memories_wf.1
    outForm := State.reset_memories_wf.2
    capacity := fun _ _ => Nat.zero_le _
    aligned := by decide
    dimensions := hpart.dimensions
    origin := hpart.origin
    inside := hpart.inside
    table := hpart.table }

/-- In IDLE the stream's shape is not spoken of. -/
theorem streamInv_reset : StreamInv State.reset where
  offsets _ h := nomatch h
  soi h := absurd h (by decide)
  segment h := absurd h (by decide)
  finished h := absurd h (by decide)

/-- Settles O46: PHASE is IDLE, of which the invariants ask no more than the ranges. -/
theorem resetSatisfiesTheInvariants : Obligations.ResetSatisfiesTheInvariants :=
  ⟨inv_reset, valueInv_of_notHeld (by decide) (by decide) (by decide), streamInv_reset⟩

/-! ## One access -/

theorem step_host {access : HostAccess} (hin : s.inputs = .host access :: rest) :
    step s = hostAccess access (s.withInputs rest) := by
  rw [step, runNext, hin]

theorem regForm_word {offset : BitVec 8} (h : offset.toNat % 4 = 0) : regForm offset .word = none := by
  simp [regForm, h]

/-! ## Reads of REG -/

theorem step_regRead {offset : BitVec 8} (hin : s.inputs = .host (.regRead offset .word) :: rest)
    (h : offset.toNat % 4 = 0) : step s = .next { s with inputs := rest, rdata := regValue s offset } := by
  rw [step_host hin, hostAccess, regForm_word h]
  rfl

theorem regValue_reserved (s : State) {offset : BitVec 8} (h : 0x20 < offset.toNat) : regValue s offset = 0 := by
  unfold regValue
  split
  case h_9 => rfl
  all_goals omega

theorem regValue_status (s : State) :
    (regValue s 0x04).toNat = match s.status with | .idle => 0 | .busy => 1 | .done => 2 | .error => 4 := by
  change ((statusBits s.status).setWidth 32).toNat = _
  cases s.status <;> rfl

theorem regValue_errCode (s : State) :
    (regValue s 0x14).toNat = match s.errCode with
      | .none => 0 | .invalidDimension => 1 | .invalidQuality => 2 | .degenerateQuantEntry => 3 | .outputOverflow => 4 := by
  change ((errBits s.errCode).setWidth 32).toNat = _
  cases s.errCode <;> rfl

theorem toNat_setWidth_32 (v : BitVec 16) : (v.setWidth 32).toNat = v.toNat := by
  rw [BitVec.toNat_setWidth]
  omega

theorem regValue_outlenLo (s : State) :
    (regValue s 0x1C).toNat = if s.status = .done then s.outlen % 2 ^ 32 else 0 := by
  change (BitVec.ofNat 32 (visibleOutlen s)).toNat = _
  rw [BitVec.toNat_ofNat, visibleOutlen]
  split <;> rfl

theorem regValue_outlenHi (s : State) :
    (regValue s 0x20).toNat = if s.status = .done then s.outlen / 2 ^ 32 % 2 ^ 32 else 0 := by
  change (BitVec.ofNat 32 (visibleOutlen s / 2 ^ 32)).toNat = _
  rw [BitVec.toNat_ofNat, visibleOutlen]
  split <;> rfl

/-- Settles O53: the read's result is `regValue`, register by register. -/
theorem regReadsReturnTheRegisters : Obligations.RegReadsReturnTheRegisters := by
  intro s offset rest hin h
  refine ⟨regValue s offset, step_regRead hin h, ?_, ?_, ?_, ?_, ?_, ?_, ?_, ?_, ?_, regValue_reserved s⟩ <;> rintro rfl
  · rfl
  · exact regValue_status s
  · exact toNat_setWidth_32 s.width
  · exact toNat_setWidth_32 s.height
  · exact toNat_setWidth_32 s.quality
  · exact regValue_errCode s
  · rfl
  · exact regValue_outlenLo s
  · exact regValue_outlenHi s

/-! ## Writes of REG -/

/-- A REG write that is not the ENCODE command is a store. -/
theorem step_regWrite_store {offset : BitVec 8} {data : BitVec 32}
    (hin : s.inputs = .host (.regWrite offset .word data) :: rest) (h : offset.toNat % 4 = 0)
    (hcmd : ¬(offset = 0x00 ∧ data.getLsbD 0 = true)) : step s = .next (regStore (s.withInputs rest) offset data) := by
  have hdecode : decode (.host offset data) = .error .notACommand := by
    rw [decode, decodeHost, if_neg (by simpa using hcmd)]
  rw [step_host hin, hostAccess, regForm_word h]
  simp only [hdecode]

/-- While BUSY a REG write does nothing, ENCODE included (R310). -/
theorem step_regWrite_busy {offset : BitVec 8} {data : BitVec 32}
    (hin : s.inputs = .host (.regWrite offset .word data) :: rest) (h : offset.toNat % 4 = 0) (hbusy : s.busy = true) :
    step s = .next (s.withInputs rest) := by
  have hbusy' : (s.withInputs rest).busy = true := hbusy
  by_cases hcmd : offset = 0x00 ∧ data.getLsbD 0 = true
  · have hdecode : decode (.host offset data) = .ok (.encode (data.extractLsb' 1 31)) := by
      rw [decode, decodeHost, if_pos (by simpa using hcmd)]
    rw [step_host hin, hostAccess, regForm_word h]
    simp only [hdecode]
    exact if_pos hbusy'
  · rw [step_regWrite_store hin h hcmd, regStore, if_pos hbusy']

theorem regStore_other {offset : BitVec 8} (s : State) (data : BitVec 32)
    (h : offset ≠ 0x08 ∧ offset ≠ 0x0C ∧ offset ≠ 0x10) : regStore s offset data = s := by
  obtain ⟨h8, hC, h10⟩ := h
  unfold regStore
  split
  · rfl
  · split
    · rename_i ho; exact absurd (BitVec.eq_of_toNat_eq ho) h8
    · rename_i ho; exact absurd (BitVec.eq_of_toNat_eq ho) hC
    · rename_i ho; exact absurd (BitVec.eq_of_toNat_eq ho) h10
    · rfl

/-- Settles O54: while BUSY the write is ignored, otherwise it is a store of the register at its offset. -/
theorem regWritesSetTheParameters : Obligations.RegWritesSetTheParameters := by
  intro s offset data rest hin h
  refine ⟨fun hb => step_regWrite_busy hin h (decide_eq_true hb), fun hb => ?_⟩
  have hbusy : (s.withInputs rest).busy = false := decide_eq_false hb
  refine ⟨?_, ?_, ?_, ?_, ?_⟩
  · rintro rfl hbit
    rw [step_regWrite_store hin h (fun hc => by rw [hbit] at hc; cases hc.2), regStore, hbusy]
    rfl
  · rintro rfl
    rw [step_regWrite_store hin h (by simp), regStore, hbusy]
    rfl
  · rintro rfl
    rw [step_regWrite_store hin h (by simp), regStore, hbusy]
    rfl
  · rintro rfl
    rw [step_regWrite_store hin h (by simp), regStore, hbusy]
    rfl
  · intro hother
    simp only [List.mem_cons, List.not_mem_nil, or_false, not_or] at hother
    obtain ⟨h0, h8, hC, h10⟩ := hother
    rw [step_regWrite_store hin h (by simp [h0]), regStore_other _ _ ⟨h8, hC, h10⟩]
    rfl

/-! ## Reads of OUT -/

theorem hostAccess_outRead {a : ℕ} (hdone : s.status = .done) (ha : a < s.outlen) :
    hostAccess (.outRead a) s = .next { s with rdata := BitVec.ofNat 32 (outByte s a).toNat } := by
  rw [hostAccess, if_neg (not_not.mpr hdone), if_neg (by omega), BitVec.ofNat_toNat]

theorem hostAccess_outRead_beyond {a : ℕ} (hdone : s.status = .done) (ha : s.outlen ≤ a) :
    hostAccess (.outRead a) s = .refused .outBeyondLength := by
  rw [hostAccess, if_neg (not_not.mpr hdone), if_pos ha]

theorem hostAccess_outRead_notDone (a : ℕ) (hdone : s.status ≠ .done) :
    hostAccess (.outRead a) s = .refused .outNotReadable := by
  rw [hostAccess, if_pos hdone]

theorem hostAccess_rdOut (hdone : s.status = .done) : hostAccess .rdOut s = .next { s with rdout := outBytes s } := by
  rw [hostAccess, if_neg (not_not.mpr hdone)]

theorem hostAccess_rdOut_notDone (hdone : s.status ≠ .done) : hostAccess .rdOut s = .refused .outNotReadable := by
  rw [hostAccess, if_pos hdone]

/-- Settles O58: the two reads by what each answers, and the two halves of OUTLEN. -/
theorem outIsReadableOnlyWhenDone : Obligations.OutIsReadableOnlyWhenDone := by
  intro s rest
  refine ⟨fun a hin => ?_, fun hin => ?_, fun hdone => ?_⟩
  · rw [step_host hin]
    exact ⟨hostAccess_outRead (s := s.withInputs rest), hostAccess_outRead_beyond (s := s.withInputs rest),
      hostAccess_outRead_notDone (s := s.withInputs rest) a⟩
  · rw [step_host hin]
    refine ⟨fun hdone => ⟨{ s with inputs := rest, rdout := outBytes s }, hostAccess_rdOut hdone, rfl, ?_, ?_⟩,
      hostAccess_rdOut_notDone (s := s.withInputs rest)⟩
    · simp [outBytes]
    · simp [outBytes]
  · have hlo := regValue_outlenLo s
    have hhi := regValue_outlenHi s
    rw [if_neg hdone] at hlo hhi
    exact ⟨BitVec.eq_of_toNat_eq hlo, BitVec.eq_of_toNat_eq hhi⟩

end Sys2Proof.Machine
end

section
/-! # The memories: OUT, IMG and the form of a REG access -/

namespace Sys2Proof.Machine

open Sys2Proof.Spec

variable {s t : State} {rest : List Input}

/-! ## Emitted bytes -/

/-- No byte emitted in `s` is removed or changed in `t` (R84). -/
def BytesStand (s t : State) : Prop := s.outlen ≤ t.outlen ∧ ∀ a, a < s.outlen → outByte t a = outByte s a

theorem bytesStand_of_out_eq (hout : t.out = s.out) (hlen : t.outlen = s.outlen) : BytesStand s t :=
  ⟨hlen.ge, fun a _ => by rw [outByte, outByte, hout]⟩

theorem Emitted.bytesStand (h : Emitted s t) : BytesStand s t := h.1.2

theorem AcScanned.bytesStand (h : AcScanned s t) : BytesStand s t := Emitted.bytesStand (s := s.withNz t.nz) h

/-- ENCODE alone sets OUTLEN back (R310); every other operation emits or leaves OUT alone. -/
theorem completed_bytesStand {i : Instr} (hi : ∀ d, i ≠ .encode d) (h : Completed i s t) : BytesStand s t := by
  cases i with
  | encode d => exact absurd rfl (hi d)
  | seqCheck | qtbBuild | blkFetch | quant =>
    obtain ⟨-, rfl⟩ := h
    exact bytesStand_of_out_eq rfl rfl
  | fdct | zigzag | bwFinalize | seqDone =>
    rw [show t = _ from h]
    exact bytesStand_of_out_eq rfl rfl
  | blkNext =>
    rw [show t = _ from h]
    split <;> exact bytesStand_of_out_eq rfl rfl
  | hdrSoi | hdrApp0 | hdrDqt | hdrSof0 | hdrDhtDc | hdrDhtAc | hdrSos | entDc | entEob | hdrEoi =>
    obtain ⟨u, hu, rfl⟩ := h
    exact hu.bytesStand
  | entAc =>
    obtain ⟨u, hu, -, rfl⟩ := h
    have hstand : BytesStand s u := AcScanned.bytesStand hu
    exact hstand
  | _ => exact Emitted.bytesStand h

/-- ENCODE sets OUTLEN back but leaves every byte of OUT (R310). -/
theorem completed_encode_out {d : BitVec 31} (h : Completed (.encode d) s t) : t.out = s.out := by
  rw [show t = _ from h]
  split <;> rfl

/-- Settles O22: a completed operation lets the emitted bytes stand, and the error entry leaves OUT alone. -/
theorem emittedBytesAreNeverRewritten : Obligations.EmittedBytesAreNeverRewritten := by
  intro i s t h
  rcases exec_completed i s t h with hc | ⟨e, -, rfl⟩
  · refine ⟨?_, fun hi => completed_bytesStand hi hc⟩
    rintro d rfl
    exact completed_encode_out hc
  · exact ⟨fun _ _ => rfl, fun _ => bytesStand_of_out_eq rfl rfl⟩

/-! ## Samples -/

/-- Whatever the free choice, a byte of IMG reads as the present one or one that a write replaced (R97). -/
theorem imgByte_mem (s : State) (addr : ℕ) :
    imgByte s addr ∈ s.img.read Config.imgPowerOn addr :: tornAt s addr := by
  unfold imgByte
  cases tornAt s addr with
  | nil => exact List.mem_singleton.mpr rfl
  | cons old older =>
    have hlt : Config.tornPick s.draws addr % (older.length + 2) <
        (s.img.read Config.imgPowerOn addr :: old :: older).length := Nat.mod_lt _ (Nat.succ_pos _)
    dsimp only
    rw [List.getD_eq_getElem _ _ hlt]
    exact List.getElem_mem hlt

/-- The sample in row r and column c of the block (R182). -/
theorem fetchBlock_getElem (s : State) (r c : Fin 8) :
    (fetchBlock s)[8 * r.val + c.val] =
      imgByte s ((s.blkY.toNat + r.val) * s.width.toNat + (s.blkX.toNat + c.val)) := by
  have hcol : (8 * r.val + c.val) % 8 = c.val := by omega
  have hrow : (8 * r.val + c.val) / 8 = r.val := by omega
  simp only [fetchBlock, tabulate_getElem, imgRead, imgAddr, hcol, hrow]

theorem execBlkFetch_inside (h : s.blkX < s.width ∧ s.blkY < s.height) :
    execBlkFetch s = .next ({ s with samp := fetchBlock s }.goto .fdct) := by
  rw [execBlkFetch, if_pos (by simpa using h), finish_ok]

theorem execBlkFetch_outside (h : ¬(s.blkX < s.width ∧ s.blkY < s.height)) :
    execBlkFetch s = .fault .blockOutsideImage := by
  rw [execBlkFetch, if_neg (by simpa using h), finish_fault]

/-- Settles O24: BLK.FETCH by the two sides of its cursor test, each sample by `imgByte_mem`. -/
theorem tornSamplesAreSomeByteHeld : Obligations.TornSamplesAreSomeByteHeld := by
  intro s
  refine ⟨fun t h r c => ?_, execBlkFetch_outside⟩
  by_cases hin : s.blkX < s.width ∧ s.blkY < s.height
  · cases (execBlkFetch_inside hin).symm.trans h
    exact fetchBlock_getElem s r c ▸ imgByte_mem s _
  · cases (execBlkFetch_outside hin).symm.trans h

/-! ## The form of a REG access -/

theorem regForm_narrow {offset : BitVec 8} {width : AccessWidth} (h : width ≠ .word) :
    regForm offset width = some .regNarrow := if_pos h

theorem regForm_misaligned {offset : BitVec 8} (h : offset.toNat % 4 ≠ 0) :
    regForm offset .word = some .regMisaligned := by
  rw [regForm, if_neg (not_not.mpr rfl), if_pos h]

/-- A read or a write whose form is refused ends in that refusal. -/
theorem step_reg_refused {offset : BitVec 8} {width : AccessWidth} {data : BitVec 32} {r : Refusal}
    (hin : s.inputs = .host (.regRead offset width) :: rest ∨ s.inputs = .host (.regWrite offset width data) :: rest)
    (h : regForm offset width = some r) : step s = .refused r := by
  rcases hin with hin | hin
  · rw [step_host hin, hostAccess, h]
  · rw [step_host hin, hostAccess, h]

/-- Settles O55: both accesses by the form that `regForm` refuses. -/
theorem illFormedRegAccessIsRefused : Obligations.IllFormedRegAccessIsRefused := by
  intro s offset width data rest hin
  refine ⟨fun hw => step_reg_refused hin (regForm_narrow hw), ?_⟩
  rintro rfl ho
  exact step_reg_refused hin (regForm_misaligned ho)

/-! ## IMG -/

section
variable {addr : BitVec 32} {byte : Byte}

theorem hostAccess_imgWrite (h : addr.toNat < imgLimit) :
    hostAccess (.imgWrite addr byte) s = .next (imgStore s addr.toNat byte) := if_pos h

theorem hostAccess_imgWrite_beyond (h : imgLimit ≤ addr.toNat) :
    hostAccess (.imgWrite addr byte) s = .refused .imgNoSuchAddress := if_neg h.not_gt

theorem hostAccess_imgRead (h : addr.toNat < imgLimit) :
    hostAccess (.imgRead addr) s =
      .next { s with rdata := BitVec.ofNat 32 (s.img.read Config.imgPowerOn addr.toNat).toNat } := by
  rw [hostAccess, if_pos h, BitVec.ofNat_toNat]

theorem hostAccess_imgRead_beyond (h : imgLimit ≤ addr.toNat) :
    hostAccess (.imgRead addr) s = .refused .imgNoSuchAddress := if_neg h.not_gt

end

theorem imgStore_notBusy (h : s.status ≠ .busy) (a : ℕ) (b : Byte) :
    (imgStore s a b).torn = s.torn ∧ (imgStore s a b).draws = s.draws := by
  have hbusy : s.busy = false := decide_eq_false h
  rw [imgStore_eq, hbusy]
  exact ⟨rfl, rfl⟩

/-- The record of the byte replaced (log 10). -/
theorem imgStore_busy (h : s.status = .busy) (a : ℕ) (b : Byte) :
    (imgStore s a b).torn = (a, s.img.read Config.imgPowerOn a) :: s.torn ∧ (imgStore s a b).draws = s.draws + 1 := by
  have hbusy : s.busy = true := decide_eq_true h
  rw [imgStore_eq, hbusy]
  exact ⟨rfl, rfl⟩

/-- Settles O56: the step is `imgStore`, whose effect and frame are read off field by field. -/
theorem imgWritesStoreOneByte : Obligations.ImgWritesStoreOneByte := by
  intro s addr byte rest hin
  rw [step_host hin]
  refine ⟨fun ha => ⟨_, hostAccess_imgWrite ha, ?_, ?_, ?_, ?_, ?_⟩, hostAccess_imgWrite_beyond⟩
  · rw [imgStore_eq]
    rfl
  · exact imgStore_read_same _ _ _
  · exact fun a hne => imgStore_read_other _ _ a byte hne
  · exact fun hb => imgStore_notBusy (s := s.withInputs rest) hb _ _
  · exact fun hb => imgStore_busy (s := s.withInputs rest) hb _ _

/-- Settles O57: the two sides of the address test. -/
theorem imgReadsReturnTheByte : Obligations.ImgReadsReturnTheByte := by
  intro s addr rest hin
  rw [step_host hin]
  exact ⟨hostAccess_imgRead, hostAccess_imgRead_beyond⟩

end Sys2Proof.Machine
end

section
/-! # Bit strings and Huffman tables: a coded item is read from the front of any bit string -/

namespace Sys2Proof.Machine

open Sys2Proof.Spec

/-! ## Bit strings -/

@[simp] theorem length_natBits (n v : ℕ) : (natBits n v).length = n := by
  induction n with
  | zero => rfl
  | succ n ih => rw [natBits, List.length_cons, ih]

/-- Only the low bits of the number matter. -/
theorem natBits_mod {n m : ℕ} (h : n ≤ m) (v : ℕ) : natBits n (v % 2 ^ m) = natBits n v := by
  induction n with
  | zero => rfl
  | succ n ih => rw [natBits, natBits, ih (by omega), Nat.testBit_mod_two_pow, decide_eq_true (by omega), Bool.true_and]

/-- The high bits, then the low bits. -/
theorem natBits_add (m n v : ℕ) : natBits (m + n) v = natBits m (v / 2 ^ n) ++ natBits n v := by
  induction m with
  | zero => rw [Nat.zero_add]; rfl
  | succ m ih =>
    rw [show m + 1 + n = m + n + 1 by omega, natBits, natBits, ih, Nat.testBit_div_two_pow]
    rfl

theorem bitsNat_concat (bs : List Bool) (b : Bool) : bitsNat (bs ++ [b]) = 2 * bitsNat bs + b.toNat := by
  simp [bitsNat]

@[simp] theorem bitsNat_natBits (n v : ℕ) : bitsNat (natBits n v) = v % 2 ^ n := by
  induction n generalizing v with
  | zero => rw [pow_zero, Nat.mod_one]; rfl
  | succ n ih =>
    have hlast : (v.testBit 0).toNat = v % 2 := by
      rw [Nat.testBit_zero]
      rcases Nat.mod_two_eq_zero_or_one v with h | h <;> simp [h]
    rw [natBits_add n 1, show natBits 1 v = [v.testBit 0] from rfl, bitsNat_concat, ih, hlast, pow_one, pow_succ',
      Nat.mod_mul, Nat.add_comm]

theorem natBits_bitsNat (bs : List Bool) : natBits bs.length (bitsNat bs) = bs := by
  induction bs using List.reverseRecOn with
  | nil => rfl
  | append_singleton bs b ih =>
    have hhigh : (2 * bitsNat bs + b.toNat) / 2 ^ 1 = bitsNat bs := by
      have hb := Bool.toNat_lt b
      omega
    have hlow : natBits 1 (2 * bitsNat bs + b.toNat) = [b] := by cases b <;> simp [natBits, Nat.testBit_zero]
    rw [bitsNat_concat, List.length_append, List.length_singleton, natBits_add, hhigh, hlow, ih]

theorem bitsNat_lt (bs : List Bool) : bitsNat bs < 2 ^ bs.length := by
  have h := bitsNat_natBits bs.length (bitsNat bs)
  rw [natBits_bitsNat] at h
  exact h ▸ Nat.mod_lt _ (by positivity)

/-- The bits that a number of `l` bits begins with are those of its high part. -/
theorem div_eq_bitsNat_take {l c m : ℕ} {bs : List Bool} (hc : c < 2 ^ l) (hm : m ≤ l) (h : natBits l c <+: bs) :
    c / 2 ^ (l - m) = bitsNat (bs.take m) := by
  obtain ⟨rest, rfl⟩ := h
  have hlt : c / 2 ^ (l - m) < 2 ^ m := by
    rw [Nat.div_lt_iff_lt_mul (by positivity), ← pow_add, Nat.add_sub_cancel' hm]
    exact hc
  have hsplit := natBits_add m (l - m) c
  rw [Nat.add_sub_cancel' hm] at hsplit
  rw [hsplit, List.append_assoc, List.take_left' (length_natBits m _), bitsNat_natBits, Nat.mod_eq_of_lt hlt]

/-! ## Huffman tables -/

/-- Two codewords differ within as many bits as the shorter one has: neither begins the other (R135). It is said of the
numbers, which are cheaper to compare over a whole table than the bit strings. -/
def codesDiffer (v w : Codeword) : Bool := v.code / 2 ^ (v.len - w.len) != w.code / 2 ^ (w.len - v.len)

/-- The table of a Huffman code: a codeword fits in its length, none begins another, and a symbol has one codeword (R121,
R135). -/
structure HuffTable (table : List (ℕ × Codeword)) : Prop where
  fits : ∀ p ∈ table, p.2.code < 2 ^ p.2.len
  separated : table.Pairwise fun p q => codesDiffer p.2 q.2 = true
  functional : ∀ p ∈ table, table.lookup p.1 = some p.2

theorem dcHuff_huffTable : HuffTable Rom.dcHuff := ⟨by decide +kernel, by decide +kernel, by decide +kernel⟩

theorem acHuff_huffTable : HuffTable Rom.acHuff := ⟨by decide +kernel, by decide +kernel, by decide +kernel⟩

/-- No bit string begins with two codewords. -/
theorem codesDiffer_not_both_begin {v w : Codeword} {bs : List Bool} (hv : v.code < 2 ^ v.len) (hw : w.code < 2 ^ w.len)
    (hne : codesDiffer v w = true) (hvb : natBits v.len v.code <+: bs) : ¬natBits w.len w.code <+: bs := by
  intro hwb
  have hvv := div_eq_bitsNat_take hv (min_le_left v.len w.len) hvb
  have hwv := div_eq_bitsNat_take hw (min_le_right v.len w.len) hwb
  rw [show v.len - min v.len w.len = v.len - w.len by omega] at hvv
  rw [show w.len - min v.len w.len = w.len - v.len by omega] at hwv
  exact bne_iff_ne.mp hne (hvv.trans hwv.symm)

/-- A match is an entry of the table whose codeword begins the string. -/
theorem matchPrefix_eq_some {table : List (ℕ × Codeword)} {bs rest : List Bool} {symbol : ℕ}
    (h : matchPrefix table bs = some (symbol, rest)) :
    ∃ cw, (symbol, cw) ∈ table ∧ bs = natBits cw.len cw.code ++ rest := by
  induction table with
  | nil => cases h
  | cons p table ih =>
    obtain ⟨symbol', cw⟩ := p
    unfold matchPrefix at h
    split at h
    · rename_i hpre
      cases h
      obtain ⟨rest, rfl⟩ := List.isPrefixOf_iff_prefix.mp hpre
      exact ⟨cw, List.mem_cons_self, by rw [List.drop_left' (length_natBits _ _)]⟩
    · obtain ⟨cw', hmem, hbs⟩ := ih h
      exact ⟨cw', List.mem_cons_of_mem _ hmem, hbs⟩

/-- The codeword of an entry is matched, whatever bits follow it. -/
theorem matchPrefix_append {table : List (ℕ × Codeword)} (hfits : ∀ p ∈ table, p.2.code < 2 ^ p.2.len)
    (hsep : table.Pairwise fun p q => codesDiffer p.2 q.2 = true) {symbol : ℕ} {cw : Codeword}
    (hmem : (symbol, cw) ∈ table) (rest : List Bool) :
    matchPrefix table (natBits cw.len cw.code ++ rest) = some (symbol, rest) := by
  induction table with
  | nil => cases hmem
  | cons p table ih =>
    obtain ⟨hfst, hsep⟩ := List.pairwise_cons.mp hsep
    rcases List.mem_cons.mp hmem with rfl | hmem'
    · rw [matchPrefix, if_pos (List.isPrefixOf_iff_prefix.mpr (List.prefix_append _ _)),
        List.drop_left' (length_natBits _ _)]
    · have hnot : ¬natBits p.2.len p.2.code <+: natBits cw.len cw.code ++ rest := fun hp =>
        codesDiffer_not_both_begin (hfits p List.mem_cons_self) (hfits _ hmem) (hfst _ hmem') hp (List.prefix_append _ _)
      rw [matchPrefix, if_neg (hnot ∘ List.isPrefixOf_iff_prefix.mp)]
      exact ih (fun q hq => hfits q (List.mem_cons_of_mem _ hq)) hsep hmem'

/-! ## Coded items of a table -/

section
variable {table : List (ℕ × Codeword)} {size : ℕ → ℕ} {row : ℕ → ℕ → Option Instr} {symbol mag : ℕ} {cw : Codeword}
  {i : Instr} {bs rest : List Bool}

theorem codewordBits_of_lookup (h : table.lookup symbol = some cw) :
    codewordBits table symbol = natBits cw.len cw.code := by
  rw [codewordBits, h]

theorem mem_of_lookup {α : Type} {l : List (ℕ × α)} {a : α} (h : l.lookup symbol = some a) : (symbol, a) ∈ l := by
  obtain ⟨before, after, rfl, -⟩ := List.lookup_eq_some_iff.mp h
  exact List.mem_append_right _ List.mem_cons_self

/-- What the decoder reads is a row's codeword and magnitude, and then the bits it leaves. -/
theorem decodeItem_eq_ok (htable : HuffTable table) (h : decodeItem table size row bs = .ok (i, rest)) :
    ∃ symbol mag, row symbol mag = some i ∧ bs = codewordBits table symbol ++ natBits (size symbol) mag ++ rest := by
  unfold decodeItem at h
  split at h
  · cases h
  · rename_i symbol tail hmatch
    split at h
    · cases h
    · split at h
      · cases h
      · rename_i hlen _ hrow
        cases h
        obtain ⟨cw, hmem, rfl⟩ := matchPrefix_eq_some hmatch
        have hmag := natBits_bitsNat (tail.take (size symbol))
        rw [List.length_take_of_le (by omega)] at hmag
        refine ⟨symbol, _, hrow, ?_⟩
        rw [codewordBits_of_lookup (htable.functional _ hmem), hmag, List.append_assoc, List.take_append_drop]

/-- A row's codeword and magnitude are read from the front of any bit string. -/
theorem decodeItem_append (htable : HuffTable table) (hcw : table.lookup symbol = some cw) (hmag : mag < 2 ^ size symbol)
    (hrow : row symbol mag = some i) (rest : List Bool) :
    decodeItem table size row (codewordBits table symbol ++ natBits (size symbol) mag ++ rest) = .ok (i, rest) := by
  have hmatch := matchPrefix_append htable.fits htable.separated (mem_of_lookup hcw) (natBits (size symbol) mag ++ rest)
  have hlen : ¬(natBits (size symbol) mag ++ rest).length < size symbol := by
    rw [List.length_append, length_natBits]
    omega
  have htake : bitsNat ((natBits (size symbol) mag ++ rest).take (size symbol)) = mag := by
    rw [List.take_left' (length_natBits _ _), bitsNat_natBits, Nat.mod_eq_of_lt hmag]
  rw [codewordBits_of_lookup hcw, List.append_assoc, decodeItem, hmatch]
  simp only [if_neg hlen, htake, hrow, List.drop_left' (length_natBits _ _)]

end

end Sys2Proof.Machine
end

section
/-! # The rows of HUFF_DC and HUFF_AC: each is a coded item of its table -/

namespace Sys2Proof.Machine

open Sys2Proof.Spec

variable {symbol mag : ℕ} {i : Instr} {bits : List Bool}

/-! ## From a row to its encoding -/

/-- A row's item is made from the low bits of the magnitude alone. -/
theorem dcItem_ofNat {n category : ℕ} (h : category = n) (mag : ℕ) :
    dcItem category (BitVec.ofNat n mag).toNat = dcItem category mag := by
  rw [dcItem, dcItem, BitVec.toNat_ofNat, natBits_mod h.le]

theorem acItem_ofNat {n symbol : ℕ} (h : acSize symbol = n) (mag : ℕ) :
    acItem symbol (BitVec.ofNat n mag).toNat = acItem symbol mag := by
  rw [acItem, acItem, BitVec.toNat_ofNat, natBits_mod h.le]

/-- The row of a category encodes as its item. -/
theorem encode_of_dcRow {category : ℕ} (h : dcRow category mag = some i) : encode i = dcItem category mag := by
  unfold dcRow at h
  split at h <;> cases h
  case h_1 => rfl
  all_goals exact dcItem_ofNat rfl mag

/-- Each of the rows encodes as the item of its symbol. -/
def RowsEncode (mag : ℕ) (rows : List (ℕ × Instr)) : Prop := ∀ p ∈ rows, encode p.2 = acItem p.1 mag

theorem rowsEncode_nil : RowsEncode mag [] := fun _ h => nomatch h

theorem RowsEncode.cons {rows : List (ℕ × Instr)} (hi : encode i = acItem symbol mag) (h : RowsEncode mag rows) :
    RowsEncode mag ((symbol, i) :: rows) := List.forall_mem_cons.mpr ⟨hi, h⟩

theorem RowsEncode.cons_mag {n : ℕ} {rows : List (ℕ × Instr)} {mk : BitVec n → Instr} (hn : acSize symbol = n)
    (hmk : ∀ b, encode (mk b) = acItem symbol b.toNat) (h : RowsEncode mag rows) :
    RowsEncode mag ((symbol, mk (BitVec.ofNat n mag)) :: rows) := h.cons ((hmk _).trans (acItem_ofNat hn mag))

/-- The row of a symbol encodes as its item. -/
theorem encode_of_acRow (h : acRow symbol mag = some i) : encode i = acItem symbol mag := by
  have hmem := mem_of_lookup h
  split at hmem
  case h_17 => cases hmem
  all_goals refine (?_ : RowsEncode mag _) _ hmem
  -- EOB and ZRL, first in runs 0 and 15, have no magnitude
  case' h_1 | h_16 => refine RowsEncode.cons rfl ?_
  all_goals
    repeat refine RowsEncode.cons_mag rfl (fun _ => rfl) ?_
    exact rowsEncode_nil

/-! ## From an encoding to its row -/

/-- `i` is a coded item of a table: the row of a symbol with a codeword and a magnitude of the symbol's size, which the block
emits by writing the two (R120). -/
structure ItemOf (table : List (ℕ × Codeword)) (size : ℕ → ℕ) (row : ℕ → ℕ → Option Instr) (i : Instr) (symbol mag : ℕ) :
    Prop where
  row_eq : row symbol mag = some i
  coded : ∃ cw, table.lookup symbol = some cw
  fits : mag < 2 ^ size symbol
  emits : ∀ s, exec i s = finish s ((writeCode table symbol s).bind (writeMag mag (size symbol)))

/-- The rows of one symbol, one for each operand, are coded items. -/
theorem itemOf_forall {table : List (ℕ × Codeword)} {size : ℕ → ℕ} {row : ℕ → ℕ → Option Instr} {n : ℕ}
    {mk : BitVec n → Instr}
    (hemits : ∀ b s, exec (mk b) s = finish s ((writeCode table symbol s).bind (writeMag b.toNat (size symbol))))
    (hrow : ∀ m, row symbol m = some (mk (BitVec.ofNat n m))) (hcoded : ∃ cw, table.lookup symbol = some cw)
    (hn : n = size symbol) (b : BitVec n) : ∃ symbol mag, ItemOf table size row (mk b) symbol mag :=
  ⟨symbol, b.toNat, by rw [hrow, BitVec.ofNat_toNat, BitVec.setWidth_eq], hcoded, hn ▸ b.isLt, hemits b⟩

/-- A row of HUFF_DC is a coded item of DCHUFF (R122). -/
theorem itemOf_of_huffDc (h : encode i = .sub (.huffDc bits)) : ∃ category mag, ItemOf Rom.dcHuff id dcRow i category mag := by
  cases i with
  | dcCat0 => exact ⟨0, 0, rfl, ⟨_, rfl⟩, Nat.one_pos, fun _ => rfl⟩
  | dcCat1 b | dcCat2 b | dcCat3 b | dcCat4 b | dcCat5 b | dcCat6 b | dcCat7 b | dcCat8 b | dcCat9 b | dcCat10 b | dcCat11 b =>
    clear h
    revert b
    exact itemOf_forall (fun _ _ => rfl) (fun _ => rfl) ⟨_, rfl⟩ rfl
  | _ => cases h

/-- A row of HUFF_AC is a coded item of ACHUFF (R124). -/
theorem itemOf_of_huffAc (h : encode i = .sub (.huffAc bits)) : ∃ symbol mag, ItemOf Rom.acHuff acSize acRow i symbol mag := by
  cases i with
  | encode | seqCheck | qtbBuild | hdrSoi | hdrApp0 | hdrDqt | hdrSof0 | hdrDhtDc | hdrDhtAc | hdrSos | blkFetch | fdct | quant
  | zigzag | entDc | entAc | entEob | blkNext | bwFinalize | hdrEoi | seqDone | bwWrite | outAppend | markerSoi | markerApp0
  | markerDqt | markerSof0 | markerDht | markerSos | markerEoi | stuff | dcCat0 | dcCat1 | dcCat2 | dcCat3 | dcCat4 | dcCat5
  | dcCat6 | dcCat7 | dcCat8 | dcCat9 | dcCat10 | dcCat11 => cases h
  | acEob => exact ⟨0x00, 0, rfl, ⟨_, rfl⟩, Nat.one_pos, fun _ => rfl⟩
  | acZrl => exact ⟨0xF0, 0, rfl, ⟨_, rfl⟩, Nat.one_pos, fun _ => rfl⟩
  | _ b =>
    clear h
    revert b
    exact itemOf_forall (fun _ _ => rfl) (fun _ => rfl) ⟨_, rfl⟩ rfl

end Sys2Proof.Machine
end

section
/-! # The decoder accepts exactly the encodings of the well-formed operations -/

namespace Sys2Proof.Machine

open Sys2Proof.Spec

section
variable {i : Instr} {bits : List Bool}

/-! ## Coded items -/

theorem decodeDcItem_encoding (h : encode i = .sub (.huffDc bits)) (rest : List Bool) :
    decodeDcItem (bits ++ rest) = .ok (i, rest) := by
  obtain ⟨category, mag, hi⟩ := itemOf_of_huffDc h
  obtain ⟨cw, hcw⟩ := hi.coded
  cases (encode_of_dcRow hi.row_eq).symm.trans h
  exact decodeItem_append dcHuff_huffTable hcw hi.fits hi.row_eq rest

theorem decodeAcItem_encoding (h : encode i = .sub (.huffAc bits)) (rest : List Bool) :
    decodeAcItem (bits ++ rest) = .ok (i, rest) := by
  obtain ⟨symbol, mag, hi⟩ := itemOf_of_huffAc h
  obtain ⟨cw, hcw⟩ := hi.coded
  cases (encode_of_acRow hi.row_eq).symm.trans h
  exact decodeItem_append acHuff_huffTable hcw hi.fits hi.row_eq rest

/-! ## The decoder reads every encoding -/

theorem decodeWhole_ok_nil (i : Instr) : decodeWhole (.ok (i, [])) = .ok i := rfl

theorem decode_huffDc (h : encode i = .sub (.huffDc bits)) : decode (.sub (.huffDc bits)) = .ok i := by
  have hitem := decodeDcItem_encoding h []
  rw [List.append_nil] at hitem
  rw [decode, decodeSub, hitem, decodeWhole_ok_nil]

theorem decode_huffAc (h : encode i = .sub (.huffAc bits)) : decode (.sub (.huffAc bits)) = .ok i := by
  have hitem := decodeAcItem_encoding h []
  rw [List.append_nil] at hitem
  rw [decode, decodeSub, hitem, decodeWhole_ok_nil]

/-- The ENCODE command's data bits: the ignored ones, and bit 0 set (R111). -/
theorem extractLsb'_command (ignored : BitVec 31) : (ignored ++ 1#1).extractLsb' 1 31 = ignored := by
  refine BitVec.eq_of_getLsbD_eq fun k hk => ?_
  rw [BitVec.getLsbD_extractLsb', BitVec.getLsbD_append, decide_eq_true hk, if_neg (by omega), Bool.true_and,
    Nat.add_sub_cancel_left]

theorem command_extractLsb' {data : BitVec 32} (h : data.getLsbD 0 = true) : data.extractLsb' 1 31 ++ 1#1 = data := by
  refine BitVec.eq_of_getLsbD_eq fun k hk => ?_
  rw [BitVec.getLsbD_append]
  cases k with
  | zero => exact h.symm
  | succ k =>
    rw [if_neg (by omega), BitVec.getLsbD_extractLsb', decide_eq_true (by omega), Bool.true_and, Nat.add_comm 1,
      Nat.add_sub_cancel]

theorem decode_command (ignored : BitVec 31) : decode (.host 0x00#8 (ignored ++ 1#1)) = .ok (.encode ignored) := by
  have hbit : (ignored ++ 1#1).getLsbD 0 = true := by rw [BitVec.getLsbD_append]; rfl
  rw [decode, decodeHost, if_pos (by simp [hbit]), extractLsb'_command]

/-- The decoder reads a well-formed operation from its encoding. -/
theorem decode_encode (h : i.wellFormed = true) : decode (encode i) = .ok i := by
  cases i with
  | encode ignored => exact decode_command ignored
  | bwWrite bits nbits => exact if_pos h
  | seqCheck | qtbBuild | hdrSoi | hdrApp0 | hdrDqt | hdrSof0 | hdrDhtDc | hdrDhtAc | hdrSos | blkFetch | fdct | quant
  | zigzag | entDc | entAc | entEob | blkNext | bwFinalize | hdrEoi | seqDone | outAppend | markerSoi | markerApp0
  | markerDqt | markerSof0 | markerDht | markerSos | markerEoi | stuff => rfl
  | dcCat0 | dcCat1 | dcCat2 | dcCat3 | dcCat4 | dcCat5 | dcCat6 | dcCat7 | dcCat8 | dcCat9 | dcCat10 | dcCat11 =>
    exact decode_huffDc rfl
  | _ => exact decode_huffAc rfl

/-! ## The decoder reads nothing else -/

theorem decodeWhole_eq_ok {item : Except DecodeError (Instr × List Bool)} (h : decodeWhole item = .ok i) :
    item = .ok (i, []) := by
  unfold decodeWhole at h
  split at h <;> cases h
  rfl

theorem encode_of_decodeHost {offset : BitVec 8} {data : BitVec 32} (h : decodeHost offset data = .ok i) :
    i.wellFormed = true ∧ encode i = .host offset data := by
  unfold decodeHost at h
  split at h
  · rename_i hcmd
    obtain ⟨ho, hbit⟩ := Bool.and_eq_true_iff.mp hcmd
    cases h
    rw [encode, command_extractLsb' hbit, of_decide_eq_true ho]
    exact ⟨rfl, rfl⟩
  · cases h

theorem encode_of_decodeUop {phase : BitVec 5} (h : decodeUop phase = .ok i) :
    i.wellFormed = true ∧ encode i = .uop phase := by
  have hphase : BitVec.ofNat 5 phase.toNat = phase := by rw [BitVec.ofNat_toNat, BitVec.setWidth_eq]
  unfold decodeUop at h
  split at h <;> cases h
  all_goals
    rename_i hcode
    rw [← hphase, hcode]
    exact ⟨rfl, rfl⟩

theorem encode_of_decodeMarker {word : BitVec 16} (h : decodeMarker word = .ok i) :
    i.wellFormed = true ∧ encode i = .sub (.marker word) := by
  unfold decodeMarker at h
  split_ifs at h with h1 h2 h3 h4 h5 h6 h7 <;> cases h
  all_goals
    subst word
    exact ⟨rfl, rfl⟩

theorem encode_of_decodeStuff {word : BitVec 16} (h : decodeStuff word = .ok i) :
    i.wellFormed = true ∧ encode i = .sub (.stuff word) := by
  unfold decodeStuff at h
  split at h
  · subst word
    cases h
    exact ⟨rfl, rfl⟩
  · cases h

/-- BW.WRITE alone has operands that its type does not bound (R261). -/
theorem wellFormed_of_encode_ne (h : ∀ value nbits, encode i ≠ .sub (.bwWrite value nbits)) : i.wellFormed = true := by
  unfold Instr.wellFormed
  split
  · exact absurd rfl (h _ _)
  · rfl

theorem encode_of_decode_huffDc (h : decode (.sub (.huffDc bits)) = .ok i) :
    i.wellFormed = true ∧ encode i = .sub (.huffDc bits) := by
  obtain ⟨category, mag, hrow, hbits⟩ := decodeItem_eq_ok dcHuff_huffTable (decodeWhole_eq_ok h)
  rw [List.append_nil] at hbits
  have hcode : encode i = .sub (.huffDc bits) := by rw [encode_of_dcRow hrow, hbits]; rfl
  exact ⟨wellFormed_of_encode_ne fun _ _ hb => (nomatch hcode.symm.trans hb), hcode⟩

theorem encode_of_decode_huffAc (h : decode (.sub (.huffAc bits)) = .ok i) :
    i.wellFormed = true ∧ encode i = .sub (.huffAc bits) := by
  obtain ⟨symbol, mag, hrow, hbits⟩ := decodeItem_eq_ok acHuff_huffTable (decodeWhole_eq_ok h)
  rw [List.append_nil] at hbits
  have hcode : encode i = .sub (.huffAc bits) := by rw [encode_of_acRow hrow, hbits]; rfl
  exact ⟨wellFormed_of_encode_ne fun _ _ hb => (nomatch hcode.symm.trans hb), hcode⟩

/-- The decoder reads well-formed operations only, each from its encoding. -/
theorem encode_of_decode {c : Code} (h : decode c = .ok i) : i.wellFormed = true ∧ encode i = c := by
  cases c with
  | host offset data => exact encode_of_decodeHost h
  | uop phase => exact encode_of_decodeUop h
  | sub c =>
    cases c with
    | seqDone | outAppend =>
      cases h
      exact ⟨rfl, rfl⟩
    | bwWrite value nbits =>
      rw [decode, decodeSub] at h
      split at h
      · rename_i hwf
        cases h
        exact ⟨hwf, rfl⟩
      · cases h
    | marker word => exact encode_of_decodeMarker h
    | stuff word => exact encode_of_decodeStuff h
    | huffDc bits => exact encode_of_decode_huffDc h
    | huffAc bits => exact encode_of_decode_huffAc h

end

/-! ## The statements -/

/-- Settles O1: the two directions, format by format; no codeword of HUFF_DC or HUFF_AC begins another. -/
theorem decodeInvertsEncode : Obligations.DecodeInvertsEncode := fun _ _ =>
  ⟨encode_of_decode, fun ⟨hwf, hcode⟩ => hcode ▸ decode_encode hwf⟩

/-- Settles O2: a row's encoding is a codeword of its table and as many magnitude bits as its size says. -/
theorem codedItemsReadFromTheFront : Obligations.CodedItemsReadFromTheFront := fun _ _ rest =>
  ⟨fun h => decodeDcItem_encoding h rest, fun h => decodeAcItem_encoding h rest⟩

/-- Settles O3: each word is the encoding of its operation. -/
theorem writtenWordsDecode : Obligations.WrittenWordsDecode :=
  ⟨decode_encode (i := .encode 0) rfl, decode_encode (i := .seqCheck) rfl, decode_encode (i := .fdct) rfl,
    decode_encode (i := .hdrEoi) rfl, decode_encode (i := .markerDht) rfl, decode_encode (i := .stuff) rfl,
    decode_encode (i := .dcCat3 0b010) rfl, decode_encode (i := .acR0S4 0b0110) rfl, decode_encode (i := .acZrl) rfl⟩

end Sys2Proof.Machine
end

section
/-! # The stream: bytes appended to OUT, and bits joined to those buffered -/

namespace Sys2Proof.Machine

open Sys2Proof.Spec

variable {s t : State} {bytes : List Byte} {after : State → State}

/-! ## Bytes -/

/-- `s` with the bytes at OUTLEN (R84). -/
def State.appended (s : State) (bytes : List Byte) : State :=
  { s with out := s.out.writeAll s.outlen bytes, outlen := s.outlen + bytes.length }

/-- OUT and OUTLEN alone say what was appended. -/
theorem appended_of_out_eq (hout : t.out = s.out.writeAll s.outlen bytes) (hlen : t.outlen = s.outlen + bytes.length) :
    Appended s t bytes := by
  refine ⟨hlen, fun j hj => ?_, fun a ha => ?_⟩
  · rw [outByte, hout]
    exact Memory.read_writeAll_inside _ bytes _ _ j hj
  · rw [outByte, hout]
    exact Memory.read_writeAll_outside _ bytes _ _ a ha

theorem emit_of_room (h : Room s bytes.length) : emit bytes s = .ok (s.appended bytes) := emit_room bytes s h

/-- Without room the failing append finds OUTLEN at OUT_CAP. -/
theorem emit_of_not_room (hs : WithinCap s) (h : ¬Room s bytes.length) :
    emit bytes s = .error (.raise ⟨.outputOverflow, BitVec.ofNat 32 (s.outCap.getD 0)⟩) := by
  simp only [Room, not_forall] at h
  obtain ⟨cap, hcap, hlt⟩ := h
  rw [hcap]
  exact emit_full bytes s cap hcap (hs cap hcap) (by omega)

/-- An operation that appends bytes and then makes a change that leaves OUT alone. -/
theorem finish_emit_appendsOrOverflows (hs : WithinCap s) (bytes : List Byte) (hout : ∀ u, (after u).out = u.out)
    (hlen : ∀ u, (after u).outlen = u.outlen) :
    AppendsOrOverflows s (finish s ((emit bytes s).map after)) bytes after := by
  refine ⟨fun hroom => ⟨after (s.appended bytes), ?_, ?_, ?_⟩, fun hfull => ?_⟩
  · rw [emit_of_room hroom]
    rfl
  · rw [hout, hlen]
    rfl
  · exact appended_of_out_eq (hout _) (hlen _)
  · rw [emit_of_not_room hs hfull]
    rfl

theorem emit_appendsOrOverflows (hs : WithinCap s) (bytes : List Byte) :
    AppendsOrOverflows s (finish s (emit bytes s)) bytes id := by
  have h := finish_emit_appendsOrOverflows (after := id) hs bytes (fun _ => rfl) (fun _ => rfl)
  rwa [Except.map_id] at h

/-- Settles O20: each is `emit` of its two bytes. -/
theorem markersAndStuffedByteAreTwoBytes : Obligations.MarkersAndStuffedByteAreTwoBytes := fun _ hs =>
  ⟨emit_appendsOrOverflows hs _, emit_appendsOrOverflows hs _, emit_appendsOrOverflows hs _, emit_appendsOrOverflows hs _,
    emit_appendsOrOverflows hs _, emit_appendsOrOverflows hs _, emit_appendsOrOverflows hs _, emit_appendsOrOverflows hs _⟩

/-! ## Bits -/

/-- ACC and ACCN holding the bits (R51). -/
def State.buffering (s : State) (bits : List Bool) : State := s.withBits (bitsNat bits) bits.length

@[simp] theorem pendingBits_buffering (s : State) (bits : List Bool) : pendingBits (s.buffering bits) = bits :=
  natBits_bitsNat bits

/-- What is buffered is ACC and ACCN. -/
theorem buffering_pendingBits (h : s.acc < 2 ^ s.accn) : s.buffering (pendingBits s) = s := by
  rw [State.buffering, pendingBits, bitsNat_natBits, length_natBits, Nat.mod_eq_of_lt h]
  rfl

theorem append_withBits (b : Byte) (s : State) (acc accn : ℕ) :
    append b (s.withBits acc accn) = (append b s).map (State.withBits · acc accn) := by
  cases hf : s.outFull with
  | true => rw [append_full hf, append_full (s := s.withBits acc accn) hf]; rfl
  | false => rw [append_ok hf, append_ok (s := s.withBits acc accn) hf]; rfl

/-- Appending looks at nothing of ACC and ACCN. -/
theorem emit_withBits (bytes : List Byte) (s : State) (acc accn : ℕ) :
    emit bytes (s.withBits acc accn) = (emit bytes s).map (State.withBits · acc accn) := by
  induction bytes generalizing s with
  | nil => rfl
  | cons b bytes ih =>
    rw [emit, emit, append_withBits]
    cases append b s with
    | error e => rfl
    | ok u => exact ih u

theorem emit_append (xs ys : List Byte) (s : State) : emit (xs ++ ys) s = (emit xs s).bind (emit ys) := by
  induction xs generalizing s with
  | nil => rfl
  | cons b xs ih =>
    rw [List.cons_append, emit, emit]
    cases append b s with
    | error e => rfl
    | ok u => exact ih u

/-! ### Packing -/

theorem packBytes_of_short {bits : List Bool} (h : bits.length < 8) : packBytes bits = [] := by
  unfold packBytes
  split
  · simp only [List.length_cons] at h; omega
  · rfl

/-- Eight bits and more: the first byte, then the packing of the rest. -/
theorem packBytes_byte (v : ℕ) (bits : List Bool) :
    packBytes (natBits 8 v ++ bits) = BitVec.ofNat 8 v :: packBytes bits := by
  have hbyte : BitVec.ofNat 8 (bitsNat (natBits 8 v)) = BitVec.ofNat 8 v := by
    rw [bitsNat_natBits]; exact BitVec.eq_of_toNat_eq (by simp)
  rw [← hbyte]
  rfl

theorem leftBits_of_short {bits : List Bool} (h : bits.length < 8) : leftBits bits = bits := by
  rw [leftBits, Nat.div_eq_of_lt h, Nat.mul_zero, List.drop_zero]

theorem leftBits_byte (v : ℕ) (bits : List Bool) : leftBits (natBits 8 v ++ bits) = leftBits bits := by
  rw [leftBits, leftBits, List.length_append, length_natBits, Nat.add_div_left _ (by decide), Nat.mul_succ, Nat.add_comm,
    ← List.drop_drop, List.drop_left' (length_natBits 8 v)]

theorem length_leftBits (bits : List Bool) : (leftBits bits).length ≤ 7 := by
  rw [leftBits, List.length_drop]
  omega

theorem exists_byte_append {bits : List Bool} (h : 8 ≤ bits.length) : ∃ v, bits = natBits 8 v ++ bits.drop 8 := by
  have htake := natBits_bitsNat (bits.take 8)
  rw [List.length_take_of_le h] at htake
  exact ⟨_, by rw [htake, List.take_append_drop]⟩

/-! ### Sending -/

/-- The full bytes of a bit string go out stuffed and the rest is buffered, whatever was buffered before (R262). -/
def sendBits (bits : List Bool) (s : State) : Res :=
  (emit (stuffed (packBytes bits)) s).map (State.buffering · (leftBits bits))

theorem sendBits_of_short {bits : List Bool} (h : bits.length < 8) (s : State) :
    sendBits bits s = .ok (s.buffering bits) := by
  rw [sendBits, packBytes_of_short h, leftBits_of_short h]
  rfl

theorem sendBits_byte (v : ℕ) (bits : List Bool) (s : State) :
    sendBits (natBits 8 v ++ bits) s = (emitEcs (BitVec.ofNat 8 v) s).bind (sendBits bits) := by
  rw [sendBits, packBytes_byte, leftBits_byte, stuffed, List.flatMap_cons, emit_append, emitEcs]
  cases emit _ s with
  | error e => rfl
  | ok u => rfl

theorem sendBits_withBits (bits : List Bool) (s : State) (acc accn : ℕ) :
    sendBits bits (s.withBits acc accn) = sendBits bits s := by
  rw [sendBits, sendBits, emit_withBits]
  cases emit _ s with
  | error e => rfl
  | ok u => rfl

/-- Sending bits and then more is sending them all. -/
theorem sendBits_append (xs ys : List Bool) (s : State) :
    (sendBits xs s).bind (fun u => sendBits (pendingBits u ++ ys) u) = sendBits (xs ++ ys) s := by
  by_cases hshort : xs.length < 8
  · rw [sendBits_of_short hshort]
    simp only [Except.bind, pendingBits_buffering]
    exact sendBits_withBits _ s _ _
  · obtain ⟨v, hxs⟩ := exists_byte_append (not_lt.mp hshort)
    rw [hxs, List.append_assoc, sendBits_byte, sendBits_byte]
    cases emitEcs (BitVec.ofNat 8 v) s with
    | error e => rfl
    | ok u => exact sendBits_append (xs.drop 8) ys u
termination_by xs.length
decreasing_by
  rw [List.length_drop]
  omega

/-! ### BW.WRITE -/

theorem emitEcs_withBits (b : Byte) (s : State) (acc accn : ℕ) :
    emitEcs b (s.withBits acc accn) = (emitEcs b s).map (State.withBits · acc accn) := emit_withBits _ s acc accn

/-- Sending what is buffered, when that is less than a byte, changes nothing. -/
theorem sendBits_pendingBits_of_short (h8 : s.accn < 8) (hacc : s.acc < 2 ^ s.accn) :
    sendBits (pendingBits s) s = .ok s := by
  rw [sendBits_of_short (by rwa [pendingBits, length_natBits]), buffering_pendingBits hacc]

/-- The emit loop, with fuel enough, sends what is buffered. -/
theorem drain_eq_sendBits (fuel : ℕ) (s : State) (hfuel : s.accn / 8 ≤ fuel) (hacc : s.acc < 2 ^ s.accn) :
    drain fuel s = sendBits (pendingBits s) s := by
  induction fuel generalizing s with
  | zero => exact (sendBits_pendingBits_of_short (by omega) hacc).symm
  | succ fuel ih =>
    unfold drain
    split
    · rename_i h8
      have hbits : pendingBits s = natBits 8 (s.acc / 2 ^ (s.accn - 8)) ++ natBits (s.accn - 8) s.acc := by
        rw [← natBits_add, pendingBits, Nat.add_sub_cancel' h8]
      have hrest (u : State) : pendingBits (u.withBits (s.acc % 2 ^ (s.accn - 8)) (s.accn - 8)) =
          natBits (s.accn - 8) s.acc := natBits_mod (Nat.le_refl _) _
      rw [hbits, sendBits_byte, emitEcs_withBits]
      cases emitEcs _ s with
      | error e => rfl
      | ok u =>
        have hfuel' : (s.accn - 8) / 8 ≤ fuel := by omega
        have hu := ih (u.withBits (s.acc % 2 ^ (s.accn - 8)) (s.accn - 8)) hfuel' (Nat.mod_lt _ (by positivity))
        rw [hrest, sendBits_withBits] at hu
        exact hu
    · exact (sendBits_pendingBits_of_short (by omega) hacc).symm

/-- BW.WRITE sends what is buffered and the bits written. -/
theorem bwWrite_eq_sendBits (h : s.acc < 2 ^ s.accn) (bits nbits : ℕ) :
    bwWrite bits nbits s = sendBits (pendingBits s ++ natBits nbits bits) s := by
  have hpos : 0 < 2 ^ nbits := by positivity
  have hlow : bits % 2 ^ nbits < 2 ^ nbits := Nat.mod_lt _ hpos
  have hbits : natBits (s.accn + nbits) (s.acc * 2 ^ nbits + bits % 2 ^ nbits) = pendingBits s ++ natBits nbits bits := by
    rw [natBits_add, pendingBits, Nat.mul_comm, Nat.mul_add_div hpos, Nat.div_eq_of_lt hlow, Nat.add_zero,
      ← natBits_mod (Nat.le_refl nbits) (_ + _), Nat.mul_add_mod, Nat.mod_mod, natBits_mod (Nat.le_refl nbits)]
  have hacc : s.acc * 2 ^ nbits + bits % 2 ^ nbits < 2 ^ (s.accn + nbits) := by
    rw [pow_add]
    nlinarith
  calc bwWrite bits nbits s
    _ = sendBits (natBits (s.accn + nbits) (s.acc * 2 ^ nbits + bits % 2 ^ nbits)) (s.withBits _ _) :=
      drain_eq_sendBits _ (s.withBits _ _) (Nat.le_refl _) hacc
    _ = sendBits (pendingBits s ++ natBits nbits bits) s := by rw [sendBits_withBits, hbits]

/-- What is sent leaves fewer than eight bits buffered. -/
theorem bitsHeld_buffering_leftBits (s : State) (bits : List Bool) : BitsHeld (s.buffering (leftBits bits)) :=
  ⟨length_leftBits bits, bitsNat_lt (leftBits bits)⟩

/-- An operation that sends bits after those buffered and then makes a change that leaves the stream alone. -/
theorem finish_sendBits_emitsOrOverflows (hs : WithinCap s) (bits : List Bool)
    (hafter : ∀ u, (after u).out = u.out ∧ (after u).outlen = u.outlen ∧ (after u).acc = u.acc ∧ (after u).accn = u.accn) :
    EmitsOrOverflows s (finish s ((sendBits (pendingBits s ++ bits) s).map after)) bits after := by
  have hsend : sendBits (pendingBits s ++ bits) s =
      (emit (bytesOut s bits) s).map (State.buffering · (leftBits (pendingBits s ++ bits))) := rfl
  refine ⟨fun hroom => ?_, fun hfull => ?_⟩
  · generalize hu : (s.appended (bytesOut s bits)).buffering (leftBits (pendingBits s ++ bits)) = u
    obtain ⟨hout, hlen, hacc, haccn⟩ := hafter u
    refine ⟨after u, ?_, ?_, ?_, ?_, ?_⟩
    · rw [hsend, emit_of_room hroom, ← hu]
      rfl
    · rw [hout, hlen, hacc, haccn, ← hu]
      rfl
    · exact appended_of_out_eq (by rw [hout, ← hu]; rfl) (by rw [hlen, ← hu]; rfl)
    · rw [pendingBits, hacc, haccn, ← hu]
      exact pendingBits_buffering _ _
    · rw [BitsHeld, hacc, haccn, ← hu]
      exact bitsHeld_buffering_leftBits _ _
  · rw [hsend, emit_of_not_room hs hfull]
    rfl

theorem sendBits_emitsOrOverflows (hs : WithinCap s) (bits : List Bool) :
    EmitsOrOverflows s (finish s (sendBits (pendingBits s ++ bits) s)) bits id := by
  have h := finish_sendBits_emitsOrOverflows (after := id) hs bits (fun _ => ⟨rfl, rfl, rfl, rfl⟩)
  rwa [Except.map_id] at h

/-! ### Coded items -/

/-- What follows a sending of bits finds fewer than eight bits buffered. -/
theorem sendBits_bind_congr {f g : State → Res} (h : ∀ u, BitsHeld u → f u = g u) (bits : List Bool) (s : State) :
    (sendBits bits s).bind f = (sendBits bits s).bind g := by
  rw [sendBits]
  cases emit _ s with
  | error e => rfl
  | ok u => exact h _ (bitsHeld_buffering_leftBits u bits)

theorem writeMag_eq_sendBits (h : BitsHeld s) (mag c : ℕ) :
    writeMag mag c s = sendBits (pendingBits s ++ natBits c mag) s := by
  obtain ⟨h7, hacc⟩ := h
  unfold writeMag
  split
  · exact bwWrite_eq_sendBits hacc mag c
  · obtain rfl : c = 0 := by omega
    rw [natBits, List.append_nil, sendBits_pendingBits_of_short (by omega) hacc]

/-- A coded item sends its codeword and its magnitude (R120). -/
theorem writeCode_bind_writeMag {table : List (ℕ × Codeword)} {symbol : ℕ} {cw : Codeword} (h : BitsHeld s)
    (hcw : table.lookup symbol = some cw) (mag c : ℕ) :
    (writeCode table symbol s).bind (writeMag mag c) =
      sendBits (pendingBits s ++ (codewordBits table symbol ++ natBits c mag)) s := by
  have hcode : writeCode table symbol s = sendBits (pendingBits s ++ codewordBits table symbol) s := by
    rw [writeCode, hcw, codewordBits_of_lookup hcw]
    exact bwWrite_eq_sendBits h.2 cw.code cw.len
  rw [hcode, sendBits_bind_congr (fun u hu => writeMag_eq_sendBits hu mag c), sendBits_append, List.append_assoc]

theorem ItemOf.emitsOrOverflows {table : List (ℕ × Codeword)} {size : ℕ → ℕ} {row : ℕ → ℕ → Option Instr} {i : Instr}
    {symbol mag : ℕ} (hi : ItemOf table size row i symbol mag) (hbits : BitsHeld s) (hs : WithinCap s) :
    EmitsOrOverflows s (exec i s) (codewordBits table symbol ++ natBits (size symbol) mag) id := by
  obtain ⟨cw, hcw⟩ := hi.coded
  rw [hi.emits, writeCode_bind_writeMag hbits hcw]
  exact sendBits_emitsOrOverflows hs _

/-- Settles O34: a row's encoding is the codeword and the magnitude that its operation writes, one after the other. -/
theorem codedItemsEmitTheirEncoding : Obligations.CodedItemsEmitTheirEncoding := by
  rintro i bits s (h | h) hbits hs
  · obtain ⟨category, mag, hi⟩ := itemOf_of_huffDc h
    cases (encode_of_dcRow hi.row_eq).symm.trans h
    exact hi.emitsOrOverflows hbits hs
  · obtain ⟨symbol, mag, hi⟩ := itemOf_of_huffAc h
    cases (encode_of_acRow hi.row_eq).symm.trans h
    exact hi.emitsOrOverflows hbits hs

end Sys2Proof.Machine
end

section
/-! # Codes placed for the next step, and the end of the ENCODE pseudo-instruction -/

namespace Sys2Proof.Machine

open Sys2Proof.Spec

variable {s : State} {i : Instr} {rest : List Input}

/-! ## Placed codes -/

theorem withInputs_self (s : State) (inputs : List Input) : (s.withInputs inputs).withInputs s.inputs = s := rfl

/-- A command stands at offset 0, a whole word, so its access is well formed (R81, R111). -/
theorem step_place_host {offset : BitVec 8} {data : BitVec 32} (h : decode (.host offset data) = .ok i) :
    step (placeCode (.host offset data) s) = exec i s := by
  have hcode := (encode_of_decode h).2
  obtain ⟨ignored, rfl⟩ := decode_host_ok h
  obtain ⟨rfl, -⟩ := Code.host.inj hcode
  rw [placeCode, step_host rfl, hostAccess, regForm_word rfl, withInputs_self]
  simp only [h]

theorem step_issue {op : Instr} (hin : s.inputs = .issue op :: rest) : step s = exec op (s.withInputs rest) := by
  rw [step, runNext, hin]

theorem step_seq (hin : s.inputs = .seq :: rest) : step s = sequencerTurn (s.withInputs rest) := by
  rw [step, runNext, hin]

theorem step_place_sub {c : SubCode} (h : decode (.sub c) = .ok i) : step (placeCode (.sub c) s) = exec i s := by
  have hplace : placeCode (.sub c) s = s.withInputs (.issue i :: s.inputs) := by
    simp only [placeCode, h]
  rw [hplace, step_issue rfl, withInputs_self]

/-- While BUSY the sequencer's turn is the operation of PHASE (R312). -/
theorem sequencerTurn_busy (hbusy : s.busy = true) (h : decode (.uop (phaseCode s.phase)) = .ok i) :
    sequencerTurn s = exec i s := by
  rw [sequencerTurn, if_pos hbusy, h]

theorem step_place_uop {p : Phase} (h : decode (.uop (phaseCode p)) = .ok i) :
    step (placeCode (.uop (phaseCode p)) s) = exec i { s with phase := p, status := .busy } := by
  have hstatus := (decode_phaseCode_busy p).mp ⟨i, h⟩
  have hplace : placeCode (.uop (phaseCode p)) s =
      { s with phase := p, status := .busy, inputs := .seq :: s.inputs } := by
    simp only [placeCode, phaseOfCode_phaseCode, hstatus]
  rw [hplace, step_seq rfl]
  exact sequencerTurn_busy rfl h

/-- Settles O5: the next step takes each code from where it was placed. -/
theorem placedCodesRunTheirOperation : Obligations.PlacedCodesRunTheirOperation := fun _ _ =>
  ⟨fun _ _ => step_place_host, fun _ => step_place_sub, fun _ => step_place_uop, fun _ _ => rfl⟩

/-! ## The end of the ENCODE pseudo-instruction -/

theorem hostAccess_collect (hdone : s.status = .done) :
    hostAccess .collect s = .next (s.withInputs (.host .rdOut :: s.inputs)) := by
  rw [hostAccess, if_pos hdone]
  rfl

theorem hostAccess_collect_notDone (hdone : s.status ≠ .done) :
    hostAccess .collect s =
      .next (s.withInputs (.host (.regRead 0x14 .word) :: .host (.regRead 0x18 .word) :: s.inputs)) := by
  rw [hostAccess, if_neg hdone]
  rfl

/-- Settles O59: the two sides of the test of STATUS. -/
theorem collectReadsTheResultOrTheError : Obligations.CollectReadsTheResultOrTheError := by
  intro s rest hin
  rw [step_host hin]
  exact ⟨hostAccess_collect (s := s.withInputs rest), hostAccess_collect_notDone (s := s.withInputs rest)⟩

end Sys2Proof.Machine
end

section
/-! # The quantization table: QTB.BUILD, and the zeros that QUANT finds -/

namespace Sys2Proof.Machine

open Sys2Proof.Spec

/-! ## Rationals -/

/-- Truncation of a fraction is the division that truncates. -/
theorem truncRat_div (n : ℤ) {d : ℤ} (hd : 0 < d) : truncRat ((n : ℚ) / d) = n.tdiv d := by
  lift d to ℕ using hd.le
  have hd' : (0 : ℚ) < d := by exact_mod_cast hd
  unfold truncRat
  split
  · rename_i h
    rw [Int.cast_natCast] at h ⊢
    have hn : (0 : ℚ) ≤ n := by rwa [le_div_iff₀ hd', zero_mul] at h
    rw [Rat.floor_intCast_div_natCast, Int.tdiv_eq_ediv_of_nonneg (by exact_mod_cast hn)]
  · rename_i h
    have hn : n < 0 := by
      by_contra hn
      exact h (div_nonneg (by exact_mod_cast not_lt.mp hn) hd'.le)
    rw [← neg_div, Int.cast_natCast, ← Int.cast_neg, Rat.floor_intCast_div_natCast,
      ← Int.tdiv_eq_ediv_of_nonneg (by omega), Int.neg_tdiv, neg_neg]

theorem truncRat_mono {x y : ℚ} (h : x ≤ y) : truncRat x ≤ truncRat y := by
  unfold truncRat
  split_ifs with hx hy hy
  · exact Int.floor_mono h
  · exact absurd (hx.trans h) hy
  · have hneg : 0 ≤ ⌊-x⌋ := Int.floor_nonneg.mpr (by linarith)
    have hpos : 0 ≤ ⌊y⌋ := Int.floor_nonneg.mpr hy
    omega
  · exact neg_le_neg (Int.floor_mono (neg_le_neg h))

theorem truncRat_le_zero_iff {x : ℚ} : truncRat x ≤ 0 ↔ x < 1 := by
  unfold truncRat
  split
  · rw [← Int.lt_add_one_iff, Int.floor_lt]
    norm_num
  · rename_i h
    have hneg : 0 ≤ ⌊-x⌋ := Int.floor_nonneg.mpr (by linarith)
    exact ⟨fun _ => by linarith, fun _ => by omega⟩

/-! ## The scale factor -/

section
variable {q q' : ℤ}

theorem qtScale_pos (hq : 0 < q) : 0 < (qtScale q).2 := by
  unfold qtScale
  split
  · exact hq
  · exact (by decide : (0 : ℤ) < 50)

theorem scale_eq_qtScale (q : ℤ) : scale q = (qtScale q).1 / (qtScale q).2 := by
  unfold scale qtScale
  split
  · norm_num
  · push_cast
    ring

/-- The scale factor falls as the quality grows (R166). -/
theorem scale_antitone (hq : 0 < q) (h : q ≤ q') : scale q' ≤ scale q := by
  have hpos : (0 : ℚ) < q := by exact_mod_cast hq
  have hle : (q : ℚ) ≤ q' := by exact_mod_cast h
  unfold scale
  split_ifs with h' h50 h50
  · exact div_le_div_of_nonneg_left (by norm_num) hpos hle
  · omega
  · have hlo : (q : ℚ) < 50 := by exact_mod_cast h50
    have hhi : (50 : ℚ) ≤ q' := by exact_mod_cast not_lt.mp h'
    have hone : 1 ≤ 50 / (q : ℚ) := (one_le_div hpos).mpr hlo.le
    linarith
  · linarith

/-! ## One entry -/

/-- An entry is the exact rational formula (R162). -/
theorem qtEntry_eq_clamp_truncRat (b : ℕ) (hq : 0 < q) :
    qtEntry b q = clamp (truncRat (b * scale q + 1 / 2)) 0 255 := by
  have hden := qtScale_pos hq
  have hden' : ((qtScale q).2 : ℚ) ≠ 0 := by exact_mod_cast hden.ne'
  have hfrac : (b * scale q + 1 / 2 : ℚ) =
      ((2 * b * (qtScale q).1 + (qtScale q).2 : ℤ) : ℚ) / ((2 * (qtScale q).2 : ℤ) : ℚ) := by
    rw [scale_eq_qtScale]
    push_cast
    field_simp
  rw [hfrac, truncRat_div _ (by omega)]
  rfl

theorem qtEntry_antitone (b : ℕ) (hq : 0 < q) (h : q ≤ q') : qtEntry b q' ≤ qtEntry b q := by
  have htrunc : truncRat (b * scale q' + 1 / 2) ≤ truncRat (b * scale q + 1 / 2) :=
    truncRat_mono (by gcongr; exact scale_antitone hq h)
  rw [qtEntry_eq_clamp_truncRat b hq, qtEntry_eq_clamp_truncRat b (hq.trans_le h)]
  unfold clamp
  omega

theorem qtEntry_eq_zero_iff (b : ℕ) (hq : 0 < q) : qtEntry b q = 0 ↔ (b : ℚ) * scale q + 1 / 2 < 1 := by
  rw [← truncRat_le_zero_iff, qtEntry_eq_clamp_truncRat b hq]
  unfold clamp
  omega

end

theorem clamp_natCast (n : ℕ) : clamp n 0 255 = (min 255 n : ℕ) := by
  unfold clamp
  omega

/-- Below quality 50 (R165). -/
theorem qtEntry_of_lt_50 (b : ℕ) {q : ℕ} (hq : q < 50) : qtEntry b q = (min 255 ((100 * b + q) / (2 * q)) : ℕ) := by
  have hnum : (2 * b * 50 + q : ℤ) = (100 * b + q : ℕ) := by
    push_cast
    ring
  rw [qtEntry, qtScale, if_pos (by omega), ← clamp_natCast, hnum, Int.tdiv_eq_ediv_of_nonneg (Int.natCast_nonneg _)]
  norm_cast

/-- From quality 50 to 100 (R165). -/
theorem qtEntry_of_50_le (b : ℕ) {q : ℕ} (h50 : 50 ≤ q) (h100 : q ≤ 100) :
    qtEntry b q = (min 255 ((b * (100 - q) + 25) / 50) : ℕ) := by
  have hnum : (2 * b * (100 - q) + 50 : ℤ) = (2 * (b * (100 - q) + 25) : ℕ) := by
    push_cast [h100]
    ring
  rw [qtEntry, qtScale, if_neg (by omega), ← clamp_natCast, hnum, Int.tdiv_eq_ediv_of_nonneg (Int.natCast_nonneg _),
    ← Nat.mul_div_mul_left _ 50 (by decide : 0 < 2)]
  norm_cast

theorem qtEntry_nonneg (b : ℕ) (q : ℤ) : 0 ≤ qtEntry b q := (clamp_bounds _ 0 255 (by decide)).1

/-- From quality 100 on (R165). -/
theorem qtEntry_of_100_le (b : ℕ) {q : ℤ} (h : 100 ≤ q) : qtEntry b q = 0 := by
  have h100 : qtEntry b 100 = 0 := by simpa using qtEntry_of_50_le b (q := 100) (by decide) (by decide)
  have hle := qtEntry_antitone b (by decide) h
  have hge := qtEntry_nonneg b q
  omega

/-! ## The table -/

theorem qtTable_toNat (q : ℤ) (i : Fin 64) : ((qtTable q)[i].toNat : ℤ) = qtEntry Rom.base[i] q := by
  have hbounds := clamp_bounds ((2 * Rom.base[i] * (qtScale q).1 + (qtScale q).2).tdiv (2 * (qtScale q).2)) 0 255 (by decide)
  rw [qtTable, tabulate_get, BitVec.toNat_ofNat]
  unfold qtEntry
  omega

theorem qtTable_eq_zero_iff (q : ℤ) (i : Fin 64) : (qtTable q)[i] = 0 ↔ qtEntry Rom.base[i] q = 0 := by
  rw [← qtTable_toNat, Int.natCast_eq_zero, BitVec.toNat_eq]
  rfl

/-- No entry of the table grows with the quality (R166). -/
theorem qtTable_antitone {q q' : ℤ} (hq : 0 < q) (h : q ≤ q') (i : Fin 64) :
    (qtTable q')[i].toNat ≤ (qtTable q)[i].toNat := by
  have hle := qtEntry_antitone Rom.base[i] hq h
  rw [← qtTable_toNat, ← qtTable_toNat] at hle
  exact_mod_cast hle

/-! ## QTB.BUILD -/

/-- A quality above 0 reads the same as a two's complement and as a natural number. -/
theorem toInt_eq_toNat {q : BitVec 16} (h : 0 < q.toInt) : q.toInt = q.toNat := by
  rw [BitVec.toInt_eq_toNat_cond] at h ⊢
  split at h
  · rw [if_pos ‹_›]
  · omega

section
variable {s : State}

theorem exec_qtbBuild_invalid (h : s.quality.toInt ≤ 0) :
    exec .qtbBuild s = .next (s.takeError ⟨.invalidQuality, BitVec.ofInt 32 s.quality.toInt⟩) := by
  change execQtbBuild s = _
  rw [execQtbBuild, if_pos h, finish_raise]
  rfl

theorem exec_qtbBuild (h : 0 < s.quality.toInt) :
    exec .qtbBuild s = .next ({ s with qt := qtTable s.quality.toInt }.goto .hdrSoi) := by
  change execQtbBuild s = _
  rw [execQtbBuild, if_neg (by omega), finish_ok]

theorem qt_of_exec_qtbBuild {t : State} (hq : 0 < s.quality.toInt) (h : exec .qtbBuild s = .next t) :
    t.qt = qtTable s.quality.toInt := by
  cases (exec_qtbBuild hq).symm.trans h
  rfl

end

/-- Settles O13: the two sides of the test of QUALITY; the model's fraction is the exact one. -/
theorem qtbBuildsTheExactTable : Obligations.QtbBuildsTheExactTable := by
  intro s
  refine ⟨exec_qtbBuild_invalid, fun hq => ⟨_, exec_qtbBuild hq, rfl, fun i => ?_⟩⟩
  exact (qtTable_toNat _ i).trans (qtEntry_eq_clamp_truncRat _ hq)

theorem base_le_121 : ∀ i : Fin 64, Rom.base[i] ≤ 121 := by decide

/-- Settles O14: the closed form of each entry in the three ranges of the quality. -/
theorem quantTableClosedForms : Obligations.QuantTableClosedForms := by
  intro s i hq q b
  have hentry : (((qtTable s.quality.toInt)[i].toNat : ℕ) : ℤ) = qtEntry b q := by
    rw [qtTable_toNat, toInt_eq_toNat hq]
  refine ⟨_, exec_qtbBuild hq, fun h49 => ?_, fun h50 h100 => ?_, fun h101 => ?_⟩
  · rw [qtEntry_of_lt_50 b (by omega)] at hentry
    exact_mod_cast hentry
  · rw [qtEntry_of_50_le b h50 h100] at hentry
    have hb : b ≤ 121 := base_le_121 i
    have hle : b * (100 - q) ≤ 121 * 50 := Nat.mul_le_mul hb (by omega)
    simp only [State.goto_qt]
    omega
  · rw [qtEntry_of_100_le b (by omega)] at hentry
    exact_mod_cast hentry

/-- Settles O15: QT is `qtTable` of the quality, and each entry falls with the scale factor. -/
theorem quantTableDependsOnQualityAndFalls : Obligations.QuantTableDependsOnQualityAndFalls := by
  intro s s' t t' hq ht ht'
  have hqt := qt_of_exec_qtbBuild hq ht
  refine ⟨fun heq => ?_, fun hlt i => ?_⟩
  · rw [hqt, qt_of_exec_qtbBuild (heq ▸ hq) ht', heq]
  · rw [hqt, qt_of_exec_qtbBuild (hq.trans hlt) ht']
    exact qtTable_antitone hq hlt.le i

/-! ## Zeros -/

theorem qtEntry_97_ne_zero : ∀ i : Fin 64, qtEntry Rom.base[i] 97 ≠ 0 := by decide

theorem qtEntry_98_eq_zero_iff : ∀ i : Fin 64, qtEntry Rom.base[i] 98 = 0 ↔ i = 1 ∨ i = 2 ∨ i = 4 ∨ i = 5 := by decide

theorem qtEntry_99_eq_zero_iff : ∀ i : Fin 64, qtEntry Rom.base[i] 99 = 0 ↔ Rom.base[i] ≤ 24 := by decide

theorem qtEntry_eq_zero_of_le {b : ℕ} {q q' : ℤ} (hq : 0 < q) (hle : q ≤ q') (h : qtEntry b q = 0) : qtEntry b q' = 0 :=
  le_antisymm (h ▸ qtEntry_antitone b hq hle) (qtEntry_nonneg b q')

theorem zeroEntry_eq_some {qt : Vector Byte 64} {i : Fin 64} (hi : qt[i] = 0) (hbefore : ∀ j : Fin 64, j < i → qt[j] ≠ 0) :
    zeroEntry qt = some i := by
  cases h : zeroEntry qt with
  | none => exact absurd hi (zeroEntry_none.mp h i)
  | some k =>
    obtain ⟨hk, hkbefore⟩ := zeroEntry_some h
    rcases lt_trichotomy k i with hlt | rfl | hlt
    · exact absurd hk (hbefore k hlt)
    · rfl
    · exact absurd hi (hkbefore i hlt)

theorem exec_quant_degenerate {s : State} {i : Fin 64} (h : zeroEntry s.qt = some i) :
    exec .quant s = .next (s.takeError ⟨.degenerateQuantEntry, BitVec.ofNat 32 i.val⟩) := by
  change execQuant s = _
  rw [execQuant, h, finish_raise]

/-- The zero entry that QUANT finds first: at quality 98 and above (R167). -/
def firstZero (q : ℤ) : Fin 64 := if q = 98 then 1 else 0

theorem zeroEntry_qtTable {q : ℤ} (h : 98 ≤ q) : zeroEntry (qtTable q) = some (firstZero q) := by
  unfold firstZero
  split
  · subst q
    refine zeroEntry_eq_some ?_ fun j hj => ?_
    · rw [qtTable_eq_zero_iff, qtEntry_98_eq_zero_iff]
      exact .inl rfl
    · rw [ne_eq, qtTable_eq_zero_iff, qtEntry_98_eq_zero_iff]
      omega
  · have h99 : qtEntry Rom.base[(0 : Fin 64)] 99 = 0 := (qtEntry_99_eq_zero_iff 0).mpr (by decide)
    refine zeroEntry_eq_some ?_ fun j hj => absurd hj (Fin.not_lt_zero j)
    rw [qtTable_eq_zero_iff]
    exact qtEntry_eq_zero_of_le (by decide) (by omega) h99

/-- QUANT with the table of a quality of 98 or more. -/
theorem exec_quant_highQuality {s : State} (h : 98 ≤ s.quality.toInt) (hqt : s.qt = qtTable s.quality.toInt) :
    exec .quant s =
      .next (s.takeError ⟨.degenerateQuantEntry, if s.quality.toInt = 98 then 1 else 0⟩) := by
  rw [exec_quant_degenerate (hqt ▸ zeroEntry_qtTable h), firstZero]
  split <;> rfl

/-- Settles O16: the tables at 97, 98 and 99 entry by entry; between and beyond them no entry grows with the quality. -/
theorem highQualityTablesHaveZeros : Obligations.HighQualityTablesHaveZeros := by
  intro s hq hqt q
  have hint : s.quality.toInt = q := toInt_eq_toNat hq
  have hzero (i : Fin 64) : s.qt[i] = 0 ↔ qtEntry Rom.base[i] s.quality.toInt = 0 := by
    rw [hqt, qtTable_eq_zero_iff]
  refine ⟨fun i => ?_, fun h97 i => ?_, fun h98 i => ?_, fun h99 i => ?_, fun h100 i => ?_, fun h98 => ?_⟩
  · rw [hzero, qtEntry_eq_zero_iff _ hq]
  · rw [ne_eq, hzero]
    exact fun h => qtEntry_97_ne_zero i (qtEntry_eq_zero_of_le hq (by omega) h)
  · rw [hzero, hint, h98]
    exact qtEntry_98_eq_zero_iff i
  · rw [hzero, hint, h99]
    exact qtEntry_99_eq_zero_iff i
  · rw [hzero]
    exact qtEntry_of_100_le _ (by omega)
  · have hiff : s.quality.toInt = 98 ↔ q = 98 := by omega
    rw [exec_quant_highQuality (by omega) hqt, if_congr hiff rfl rfl]
    rfl

end Sys2Proof.Machine
end

section
/-! # The run from ENCODE to the first block -/

namespace Sys2Proof.Machine

open Sys2Proof.Spec

variable {s t u : State} {j k : ℕ}

/-! ## Runs -/

theorem run_succ_eq_next (M : Host.Core) (k : ℕ) (s t : M.State) :
    M.run (k + 1) s = .next t ↔ ∃ u, M.step s = .next u ∧ M.run k u = .next t := by
  rw [Host.Core.run]
  cases M.step s <;> simp

theorem runs_succ : Runs (k + 1) s t ↔ ∃ u, step s = .next u ∧ Runs k u t := run_succ_eq_next core k s t

theorem runs_zero : Runs 0 s t ↔ s = t := ⟨Host.Outcome.next.inj, congrArg _⟩

theorem runs_one : Runs 1 s t ↔ step s = .next t := by
  simp [runs_succ, runs_zero]

theorem runs_append (h : Runs j s t) (h' : Runs k t u) : Runs (j + k) s u := by
  induction j generalizing s with
  | zero => rwa [Nat.zero_add, runs_zero.mp h]
  | succ j ih =>
    obtain ⟨v, hstep, hrest⟩ := runs_succ.mp h
    rw [Nat.succ_add]
    exact runs_succ.mpr ⟨v, hstep, ih hrest⟩

/-- With no input waiting a busy block runs the operation of PHASE (R312). -/
theorem step_busy {i : Instr} (hin : s.inputs = []) (hbusy : s.status = .busy)
    (hop : (transition s.phase).operation = some i) : step s = exec i s := by
  have hdecode : decode (.uop (phaseCode s.phase)) = .ok i := by
    rw [← decode_phaseCode] at hop
    cases h : decode (.uop (phaseCode s.phase)) with
    | ok i' => rw [h] at hop; cases hop; rfl
    | error e => rw [h] at hop; cases hop
  rw [step, runNext, hin]
  exact sequencerTurn_busy (decide_eq_true hbusy) hdecode

theorem runs_busy {i : Instr} (hin : s.inputs = []) (hbusy : s.status = .busy)
    (hop : (transition s.phase).operation = some i) (h : exec i s = .next t) : Runs 1 s t :=
  runs_one.mpr ((step_busy hin hbusy hop).trans h)

/-! ## The header -/

/-- A segment whose length field is known (R114). -/
theorem segment_of_length {n : ℕ} {code hi lo : Byte} {payload : List Byte} (hn : payload.length + 2 = n)
    (hlen : be16 (BitVec.ofNat 16 n) = [hi, lo]) : segment code payload = [0xFF, code, hi, lo] ++ payload := by
  rw [segment, hn, hlen]
  rfl

theorem be16_eq_field16 (v : BitVec 16) : be16 v = field16 v := by
  have hhi : v.extractLsb' 8 8 = BitVec.ofNat 8 (v.toNat / 256) := by
    apply BitVec.eq_of_toNat_eq
    simp [Nat.shiftRight_eq_div_pow]
  have hlo : v.extractLsb' 0 8 = BitVec.ofNat 8 (v.toNat % 256) := by
    apply BitVec.eq_of_toNat_eq
    simp
  rw [be16, field16, hhi, hlo]

theorem length_acSyms : Rom.acSyms.length = 162 := by decide +kernel

/-- Each header operation appends the bytes of its part and moves PHASE on (R282 to R288). -/
theorem exec_headerPart (s : State) : ∀ part ∈ headerParts s, exec part.1 s = header part.2.1 part.2.2 s := by
  simp only [headerParts, List.forall_mem_cons, ← be16_eq_field16]
  have hlen : (dhtPayload 0x10 Rom.acCounts Rom.acSyms).length + 2 = 0xB5 := by
    simp [dhtPayload, tableBytes, length_acSyms, Rom.acCounts]
  refine ⟨?_, ?_, ?_, ?_, ?_, ?_, ?_, fun _ h => nomatch h⟩
  · exact congrArg (header · _ s) (rfl : markerBytes 0xD8 = _)
  · exact congrArg (header · _ s) (segment_of_length (n := 0x10) rfl rfl)
  · exact congrArg (header · _ s) (segment_of_length (n := 0x43) (by simp) rfl)
  · exact congrArg (header · _ s) (segment_of_length (n := 0x0B) rfl rfl)
  · exact congrArg (header · _ s) (segment_of_length (n := 0x1F) rfl rfl)
  · exact congrArg (header · _ s) (segment_of_length (n := 0xB5) hlen rfl)
  · exact congrArg (header · _ s) (segment_of_length (n := 0x08) rfl rfl)

theorem length_header328 (s : State) : (header328 s).length = 328 := by
  simp [header328, headerParts, field16, length_acSyms]

/-- The parts are those of a run of header operations from PHASE `p` to PHASE `q` (R312). -/
def HeaderChain : Phase → List (Instr × List Byte × Phase) → Phase → Prop
  | p, [], q => p = q
  | p, (i, _, r) :: parts, q => (transition p).operation = some i ∧ HeaderChain r parts q

theorem headerChain_headerParts (s : State) : HeaderChain .hdrSoi (headerParts s) .blkFetch :=
  ⟨rfl, rfl, rfl, rfl, rfl, rfl, rfl, rfl⟩

theorem State.appended_append (s : State) (xs ys : List Byte) (p q : Phase) :
    (((s.appended xs).goto p).appended ys).goto q = (s.appended (xs ++ ys)).goto q := by
  simp only [State.appended, State.goto, Memory.writeAll_append, List.length_append, Nat.add_assoc]

/-- With room for all their bytes the parts of the header run one after the other. -/
theorem runs_headerParts {q : Phase} (parts : List (Instr × List Byte × Phase)) (hparts : parts ⊆ headerParts s)
    (hchain : HeaderChain s.phase parts q) (hin : s.inputs = []) (hbusy : s.status = .busy)
    (hroom : Room s (parts.flatMap fun part => part.2.1).length) :
    Runs parts.length s ((s.appended (parts.flatMap fun part => part.2.1)).goto q) := by
  induction parts generalizing s with
  | nil => exact runs_zero.mpr (hchain ▸ rfl)
  | cons part parts ih =>
    obtain ⟨i, bytes, p⟩ := part
    obtain ⟨hop, hchain⟩ := hchain
    obtain ⟨hpart, hparts⟩ := List.cons_subset.mp hparts
    rw [List.flatMap_cons, List.length_append] at hroom
    have hfirst : Room s bytes.length := fun cap hcap => by
      have hle := hroom cap hcap
      dsimp only at hle
      omega
    have hexec : exec i s = .next ((s.appended bytes).goto p) := by
      rw [exec_headerPart s _ hpart, header, emit_of_room hfirst, Res.goto_ok, finish_ok]
    have hrest : Room ((s.appended bytes).goto p) (parts.flatMap fun part => part.2.1).length := fun cap hcap =>
      (Nat.add_assoc _ _ _).trans_le (hroom cap hcap)
    have hruns := runs_append (runs_busy hin hbusy hop hexec) (ih hparts hchain hin hbusy hrest)
    rw [List.length_cons, Nat.add_comm, List.flatMap_cons, ← State.appended_append s bytes _ p q]
    exact hruns

theorem runs_header (hp : s.phase = .hdrSoi) (hin : s.inputs = []) (hbusy : s.status = .busy) (hroom : Room s 328) :
    Runs 7 s ((s.appended (header328 s)).goto .blkFetch) :=
  runs_headerParts (headerParts s) (List.Subset.refl _) (hp ▸ headerChain_headerParts s) hin hbusy
    (by rwa [← header328, length_header328])

/-! ## ENCODE and what leads to the first block -/

/-- `s` right after the ENCODE it accepts (R310). -/
def State.encoding (s : State) : State :=
  { s with
    status := .busy, errCode := .none, errInfo := 0, outlen := 0, pred := 0, acc := 0, accn := 0, blkX := 0, blkY := 0,
    phase := .check, torn := [] }

theorem exec_encode_notBusy (h : s.busy = false) (d : BitVec 31) : exec (.encode d) s = .next s.encoding := by
  change execEncode d s = _
  rw [execEncode, h]
  rfl

theorem eq_encoding_of_started (hs : Ready s) (h : Started s u) : u = s.encoding := by
  cases (exec_encode_notBusy hs.2 0).symm.trans h
  rfl

theorem exec_seqCheck_legal (hw : legalDimension s.width = true) (hh : legalDimension s.height = true) :
    exec .seqCheck s = .next (s.goto .qtb) := by
  change execSeqCheck s = _
  rw [execSeqCheck, hw, hh]
  rfl

/-- `s` in its encode past the header: before BLK.FETCH of the first block. -/
def State.atFirstBlock (s : State) : State :=
  let tabled := { s.encoding with qt := qtTable s.quality.toInt }
  (tabled.appended (header328 tabled)).goto .blkFetch

/-- Nine operations lead from ENCODE to the first block. -/
theorem runs_atFirstBlock (hin : s.inputs = []) (hw : legalDimension s.width = true)
    (hh : legalDimension s.height = true) (hq : 0 < s.quality.toInt) (hcap : ∀ cap, s.outCap = some cap → 328 ≤ cap) :
    Runs 9 s.encoding s.atFirstBlock := by
  have hcheck : Runs 1 s.encoding (s.encoding.goto .qtb) := runs_busy hin rfl rfl (exec_seqCheck_legal hw hh)
  have htable : Runs 1 (s.encoding.goto .qtb) ({ s.encoding with qt := qtTable s.quality.toInt }.goto .hdrSoi) :=
    runs_busy hin rfl rfl (exec_qtbBuild hq)
  refine runs_append hcheck (runs_append (k := 7) htable ?_)
  exact runs_header rfl hin rfl fun cap hc => (Nat.zero_add 328).symm ▸ hcap cap hc

theorem atFirstBlock_inside (hw : legalDimension s.width = true) (hh : legalDimension s.height = true) :
    s.atFirstBlock.blkX < s.atFirstBlock.width ∧ s.atFirstBlock.blkY < s.atFirstBlock.height := by
  have hlt {d : BitVec 16} (h : legalDimension d = true) : 0 < d := by
    simp only [legalDimension, Bool.and_eq_true, decide_eq_true_eq] at h
    bv_omega
  exact ⟨hlt hw, hlt hh⟩

theorem exec_fdct (s : State) : exec .fdct s = .next ({ s with coef := dctBlock s.samp }.goto .quant) := rfl

/-- `s` in its encode past BLK.FETCH of the first block. -/
def State.firstFetched (s : State) : State := { s.atFirstBlock with samp := fetchBlock s.atFirstBlock }.goto .fdct

/-- `s` in its encode past FDCT of the first block. -/
def State.firstTransformed (s : State) : State :=
  { s.firstFetched with coef := dctBlock s.firstFetched.samp }.goto .quant

theorem runs_firstTransformed (hin : s.inputs = []) (hw : legalDimension s.width = true)
    (hh : legalDimension s.height = true) : Runs 2 s.atFirstBlock s.firstTransformed := by
  have hfetch : Runs 1 s.atFirstBlock s.firstFetched :=
    runs_busy hin rfl rfl (execBlkFetch_inside (atFirstBlock_inside hw hh))
  have hdct : Runs 1 s.firstFetched s.firstTransformed := runs_busy hin rfl rfl (exec_fdct s.firstFetched)
  exact runs_append hfetch hdct

/-- Settles O48: eleven operations lead to QUANT of the first block, and the table has a zero. -/
theorem highQualityEncodesFail : Obligations.HighQualityEncodesFail := by
  intro s u hs hw hh hq hcap hu
  cases eq_encoding_of_started hs hu
  have hquant := runs_busy (s := s.firstTransformed) hs.1 rfl rfl (exec_quant_highQuality hq rfl)
  have hrun := runs_append (runs_atFirstBlock hs.1 hw hh (by omega) hcap) (runs_firstTransformed hs.1 hw hh)
  exact ⟨_, runs_append hrun hquant, rfl, rfl, rfl⟩

end Sys2Proof.Machine
end

section
/-! # The block source: the cursor in raster order, and the block read -/

namespace Sys2Proof.Machine

open Sys2Proof.Spec

variable {s t : State}

/-! ## BLK.FETCH -/

/-- A byte that no host write replaced during the encode has one value (R97). -/
theorem imgByte_of_not_torn {addr : ℕ} (h : tornAt s addr = []) :
    imgByte s addr = s.img.read Config.imgPowerOn addr := by
  rw [imgByte, h]

/-- Settles O23: inside the image BLK.FETCH completes, and a sample that is not torn is the byte of IMG. -/
theorem blkFetchReadsTheBlock : Obligations.BlkFetchReadsTheBlock := fun s hx hy =>
  ⟨_, execBlkFetch_inside ⟨hx, hy⟩, rfl, fun r c htorn => (fetchBlock_getElem s r c).trans (imgByte_of_not_torn htorn)⟩

/-! ## BLK.NEXT -/

/-- An anchor 8 further on, short of the register's end. -/
theorem toNat_anchor_add {b : BitVec 16} (h : b.toNat + 8 < 2 ^ 16) : (b + 8).toNat = b.toNat + 8 := by
  bv_omega

theorem anchor_add_eq_iff {b d : BitVec 16} (h : b.toNat + 8 < 2 ^ 16) : b + 8 = d ↔ b.toNat + 8 = d.toNat := by
  rw [← toNat_anchor_add h, BitVec.toNat_eq]

theorem exec_blkNext_lastColumn (h : s.blkX + 8 = s.width) :
    exec .blkNext s = .next (s.moveCursor 0 (s.blkY + 8)) := by
  change execBlkNext s = _
  rw [execBlkNext, if_pos h]

theorem exec_blkNext_nextColumn (h : s.blkX + 8 ≠ s.width) :
    exec .blkNext s = .next (s.moveCursor (s.blkX + 8) s.blkY) := by
  change execBlkNext s = _
  rw [execBlkNext, if_neg h]

/-- Settles O25: the two sides of the test for the last column. -/
theorem blkNextAdvancesTheCursor : Obligations.BlkNextAdvancesTheCursor := by
  intro s hx hy
  have hlast := anchor_add_eq_iff (d := s.width) hx
  by_cases h : s.blkX + 8 = s.width
  · exact ⟨_, exec_blkNext_lastColumn h, rfl, fun _ => ⟨rfl, toNat_anchor_add hy⟩, fun hne => absurd (hlast.mp h) hne, rfl⟩
  · exact ⟨_, exec_blkNext_nextColumn h, rfl, fun heq => absurd (hlast.mpr heq) h, fun _ => ⟨toNat_anchor_add hx, rfl⟩, rfl⟩

/-! ## The sequence of blocks -/

/-- A legal dimension is that many blocks of 8. -/
theorem eight_mul_blocks {d : BitVec 16} (h : legalDimension d = true) : 8 * (d.toNat / 8) = d.toNat := by
  simp only [legalDimension, Bool.and_eq_true, decide_eq_true_eq] at h
  omega

/-- The number after one that is last in its row is first in the next row. -/
theorem succ_divMod_of_last {cols n : ℕ} (hpos : 0 < cols) (h : n % cols + 1 = cols) :
    (n + 1) % cols = 0 ∧ (n + 1) / cols = n / cols + 1 := by
  have hn : n + 1 = cols * (n / cols + 1) := by
    have := Nat.div_add_mod n cols
    rw [Nat.mul_succ]
    omega
  rw [hn]
  exact ⟨Nat.mul_mod_right .., Nat.mul_div_cancel_left _ hpos⟩

/-- The number after one that is not last in its row is the next in the same row. -/
theorem succ_divMod_of_not_last {cols n : ℕ} (h : n % cols + 1 < cols) :
    (n + 1) % cols = n % cols + 1 ∧ (n + 1) / cols = n / cols := by
  have hn : n + 1 = cols * (n / cols) + (n % cols + 1) := by
    have := Nat.div_add_mod n cols
    omega
  constructor
  · conv_lhs => rw [hn, Nat.mul_add_mod, Nat.mod_eq_of_lt h]
  · conv_lhs => rw [hn, Nat.mul_add_div (by omega), Nat.div_eq_of_lt h, Nat.add_zero]

/-- `t` has the dimensions of `s` and its cursor at the n-th block in raster order (R180); PHASE says if the cursor has left
the image (R183). -/
structure AtBlock (s : State) (n : ℕ) (t : State) : Prop where
  width : t.width = s.width
  height : t.height = s.height
  column : t.blkX.toNat = 8 * (n % (s.width.toNat / 8))
  row : t.blkY.toNat = 8 * (n / (s.width.toNat / 8))
  phase : t.phase = if t.blkY = t.height then .bwFinal else .blkFetch

theorem columns_pos (hw : legalDimension s.width = true) : 0 < s.width.toNat / 8 := by
  have hblocks := eight_mul_blocks hw
  simp only [legalDimension, Bool.and_eq_true, decide_eq_true_eq] at hw
  omega

/-- At the origin the cursor stands at block 0. -/
theorem atBlock_zero (hh : legalDimension s.height = true) (hx : s.blkX = 0) (hy : s.blkY = 0) (hp : s.phase = .blkFetch) :
    AtBlock s 0 s where
  width := rfl
  height := rfl
  column := by rw [hx, Nat.zero_mod]; rfl
  row := by rw [hy, Nat.zero_div]; rfl
  phase := by
    have hne : ¬s.blkY = s.height := by
      intro heq
      rw [hy] at heq
      rw [← heq] at hh
      exact absurd hh (by decide)
    rw [hp, if_neg hne]

section
variable {n : ℕ} (hw : legalDimension s.width = true) (hh : legalDimension s.height = true)
include hw hh

/-- The cursor has reached HEIGHT exactly after the last block. -/
theorem AtBlock.blkY_eq_height_iff (h : AtBlock s n t) (hn : n ≤ blockCount s) :
    t.blkY = s.height ↔ n = blockCount s := by
  have hpos := columns_pos hw
  have hrows := eight_mul_blocks hh
  have hdiv : n / (s.width.toNat / 8) = s.height.toNat / 8 ↔ n = blockCount s := by
    refine ⟨fun heq => hn.antisymm ?_, fun heq => heq ▸ Nat.mul_div_cancel_left _ hpos⟩
    rw [blockCount, Nat.mul_comm]
    exact (Nat.le_div_iff_mul_le hpos).mp heq.ge
  rw [← hdiv, BitVec.toNat_eq, h.row]
  omega

/-- BLK.NEXT takes the cursor from a block of the image to the next in raster order. -/
theorem AtBlock.next (h : AtBlock s n t) (hn : n < blockCount s) :
    ∃ u, exec .blkNext t = .next u ∧ AtBlock s (n + 1) u := by
  have hpos := columns_pos hw
  have hcols := eight_mul_blocks hw
  have hrows := eight_mul_blocks hh
  have hcol : n % (s.width.toNat / 8) < s.width.toNat / 8 := Nat.mod_lt _ hpos
  have hrow : n / (s.width.toNat / 8) < s.height.toNat / 8 := Nat.div_lt_of_lt_mul hn
  have hwlt := s.width.isLt
  have hhlt := s.height.isLt
  obtain ⟨u, hexec, hu, hlast, hnext, hphase⟩ :=
    blkNextAdvancesTheCursor t (by rw [h.column]; omega) (by rw [h.row]; omega)
  rw [h.column, h.width, h.row] at hlast
  rw [h.column, h.width] at hnext
  have hwidth : u.width = s.width := by rw [hu]; exact h.width
  have hheight : u.height = t.height := by rw [hu]
  refine ⟨u, hexec, hwidth, hheight.trans h.height, ?_, ?_, by rw [hheight]; exact hphase⟩
  all_goals by_cases hend : n % (s.width.toNat / 8) + 1 = s.width.toNat / 8
  · rw [(succ_divMod_of_last hpos hend).1, (hlast (by omega)).1]
    rfl
  · rw [(succ_divMod_of_not_last (by omega)).1, (hnext (by omega)).1]
    omega
  · rw [(succ_divMod_of_last hpos hend).2, (hlast (by omega)).2]
    omega
  · rw [(succ_divMod_of_not_last (by omega)).2, (hnext (by omega)).2, h.row]

theorem afterBlkNext_atBlock (hx : s.blkX = 0) (hy : s.blkY = 0) (hp : s.phase = .blkFetch) (hn : n ≤ blockCount s) :
    ∃ t, afterBlkNext n s = some t ∧ AtBlock s n t := by
  induction n with
  | zero => exact ⟨s, rfl, atBlock_zero hh hx hy hp⟩
  | succ n ih =>
    obtain ⟨t, hrun, ht⟩ := ih (by omega)
    obtain ⟨u, hexec, hu⟩ := ht.next hw hh (by omega)
    exact ⟨u, by simp only [afterBlkNext, hrun, hexec], hu⟩

end

/-- Settles O26: by induction on n the cursor stands at the n-th block, and HEIGHT is reached after the last one. -/
theorem blocksComeInRasterOrder : Obligations.BlocksComeInRasterOrder := by
  intro s n hw hh hx hy hp hn
  obtain ⟨t, hrun, ht⟩ := afterBlkNext_atBlock hw hh hx hy hp hn
  have hend := ht.blkY_eq_height_iff hw hh hn
  refine ⟨t, hrun, fun hlt => ⟨?_, ht.column, ht.row⟩, fun heq => ⟨?_, ?_, hend.mpr heq⟩⟩
  · rw [ht.phase, ht.height, if_neg fun h => hlt.ne (hend.mp h)]
  · rw [ht.phase, ht.height, if_pos (hend.mpr heq)]
  · rw [BitVec.toNat_eq, ht.column, heq, blockCount, Nat.mul_mod_right]
    rfl

end Sys2Proof.Machine
end

section
/-! # No step of a hardware run ends in a model-level fault -/

namespace Sys2Proof.Machine

open Sys2Proof.Spec

/-! ## Answers without a fault -/

/-- A part of an operation that completes or takes an exception. -/
def Res.NoFault (r : Res) : Prop := ∀ f, r ≠ .error (.fault f)

section
variable {P : State → Prop} {r : Res} {s : State}

theorem noFault_ok (s : State) : Res.NoFault (.ok s) := nofun

theorem Res.NoFault.bind {f : State → Res} (h : r.NoFault) (hP : r.Sat P) (hf : ∀ u, P u → (f u).NoFault) :
    Res.NoFault (r.bind f) :=
  match r, h, hP with
  | .ok u, _, hP => hf u hP
  | .error (.raise _), _, _ => nofun
  | .error (.fault f), h, _ => absurd rfl (h f)

theorem Res.NoFault.map (h : r.NoFault) (g : State → State) : Res.NoFault (r.map g) :=
  match r, h with
  | .ok _, _ => nofun
  | .error (.raise _), _ => nofun
  | .error (.fault f), h => absurd rfl (h f)

theorem Res.NoFault.goto (h : r.NoFault) (p : Phase) : (r.goto p).NoFault := h.map _

theorem Res.NoFault.finish (h : r.NoFault) (s : State) (f : Fault) : finish s r ≠ .fault f :=
  match r, h with
  | .ok _, _ => nofun
  | .error (.raise _), _ => nofun
  | .error (.fault f), h => absurd rfl (h f)

end

/-! ## Emissions -/

theorem append_noFault (b : Byte) (s : State) : (append b s).NoFault := by
  unfold append
  split <;> exact nofun

theorem emit_noFault (bytes : List Byte) (s : State) : (emit bytes s).NoFault := by
  induction bytes generalizing s with
  | nil => exact noFault_ok s
  | cons b bytes ih => exact (append_noFault b s).bind (append_emitted b s) fun u _ => ih u

theorem drain_noFault (fuel : ℕ) (s : State) : (drain fuel s).NoFault := by
  induction fuel generalizing s with
  | zero => exact noFault_ok s
  | succ fuel ih =>
    unfold drain
    split
    · exact (emit_noFault _ _).bind (emit_emitted _ _) fun u _ => ih u
    · exact noFault_ok s

theorem bwWrite_noFault (bits nbits : ℕ) (s : State) : (bwWrite bits nbits s).NoFault := drain_noFault _ _

theorem writeMag_noFault (mag c : ℕ) (s : State) : (writeMag mag c s).NoFault := by
  unfold writeMag
  split
  · exact bwWrite_noFault mag c s
  · exact noFault_ok s

/-! ## Coded items -/

/-- A symbol that has a codeword in a table (R129). -/
def Coded (table : List (ℕ × Codeword)) (symbol : ℕ) : Prop := (table.lookup symbol).isSome = true

/-- Every category of a DC difference has a codeword (R122). -/
theorem coded_dcHuff {c : ℕ} (hc : c ≤ 11) : Coded Rom.dcHuff c := by
  have hall : ∀ c < 12, Coded Rom.dcHuff c := by unfold Coded; decide
  exact hall c (by omega)

/-- Every run below 16 with a size of 1 to 10 has a codeword (R124). -/
theorem coded_acHuff {run size : ℕ} (hrun : run < 16) (hpos : 1 ≤ size) (hsize : size ≤ 10) :
    Coded Rom.acHuff (acSymbol run size) := by
  have hall : ∀ run < 16, ∀ size < 10, Coded Rom.acHuff (acSymbol run (size + 1)) := by unfold Coded; decide
  obtain ⟨k, rfl⟩ := Nat.exists_eq_add_of_le' hpos
  exact hall run hrun k (by omega)

theorem coded_eob : Coded Rom.acHuff 0x00 := rfl

theorem coded_zrl : Coded Rom.acHuff 0xF0 := rfl

section
variable {table : List (ℕ × Codeword)} {symbol : ℕ}

theorem writeCode_noFault (h : Coded table symbol) (s : State) : (writeCode table symbol s).NoFault := by
  obtain ⟨cw, hcw⟩ := Option.isSome_iff_exists.mp h
  rw [writeCode, hcw]
  exact bwWrite_noFault cw.code cw.len s

theorem writeItem_noFault (h : Coded table symbol) (mag c : ℕ) (s : State) :
    Res.NoFault ((writeCode table symbol s).bind (writeMag mag c)) :=
  (writeCode_noFault h s).bind (writeCode_emitted table symbol s) fun u _ => writeMag_noFault mag c u

end

/-! ## The entropy coder -/

/-- With fuel enough the ZRLs leave a run below 16 (R236). -/
theorem writeZrls_nz_lt (fuel : ℕ) {s : State} (hfuel : s.nz / 16 ≤ fuel) :
    (writeZrls fuel s).Sat fun u => u.nz < 16 := by
  induction fuel generalizing s with
  | zero => exact (by omega : s.nz < 16)
  | succ fuel ih =>
    unfold writeZrls
    split
    · refine (writeAc_emitted 0xF0 0 s).bind fun u hu => ih ?_
      have hnz : u.nz = s.nz := by rw [hu.eq]
      rw [State.withNz_nz, hnz]
      omega
    · exact (by omega : s.nz < 16)

theorem writeZrls_noFault (fuel : ℕ) (s : State) : (writeZrls fuel s).NoFault := by
  induction fuel generalizing s with
  | zero => exact noFault_ok s
  | succ fuel ih =>
    unfold writeZrls
    split
    · exact (writeItem_noFault coded_zrl 0 _ s).bind (writeAc_emitted 0xF0 0 s) fun u _ => ih _
    · exact noFault_ok s

/-- A nonzero value below 1024 in magnitude has a category from 1 to 10 (R126). -/
theorem category_bounds {v : ℤ} (hv : v ≠ 0) (hlt : v.natAbs < 1024) : 1 ≤ category v ∧ category v ≤ 10 := by
  have hpos := (bitlen_le_iff v.natAbs 0).not.mpr (by omega)
  exact ⟨Nat.pos_of_ne_zero fun h => hpos h.le, (bitlen_le_iff _ _).mpr hlt⟩

theorem writeEntry_noFault {v : ℤ} (hv : v ≠ 0) (hlt : v.natAbs < 1024) (s : State) : (writeEntry v s).NoFault := by
  obtain ⟨hpos, hle⟩ := category_bounds hv hlt
  refine (writeZrls_noFault _ s).bind (writeZrls_nz_lt _ le_rfl) fun u hnz => ?_
  dsimp only
  rw [if_neg (by omega)]
  exact (writeItem_noFault (coded_acHuff hnz hpos hle) _ _ u).map _

theorem scanAc_noFault {entries : List ℤ} (h : ∀ v ∈ entries, v.natAbs < 1024) (s : State) :
    (scanAc entries s).NoFault := by
  induction entries generalizing s with
  | nil => exact noFault_ok s
  | cons v rest ih =>
    obtain ⟨hv, hrest⟩ := List.forall_mem_cons.mp h
    unfold scanAc
    split
    · exact ih hrest _
    · rename_i hne
      exact (writeEntry_noFault hne hv s).bind (writeEntry_acScanned v s) fun u _ => ih hrest u

/-- An entry that ENT.AC examines is one of ZZ[1..63] (R237). -/
theorem exists_of_mem_scannedEntries {s : State} {v : ℤ} (h : v ∈ scannedEntries s) :
    ∃ k : Fin 64, 1 ≤ k.val ∧ v = s.zz[k] := by
  obtain ⟨j, hj, rfl⟩ := List.mem_drop_iff_getElem.mp (List.mem_of_mem_take h)
  rw [Vector.length_toList] at hj
  exact ⟨⟨1 + j, by omega⟩, Nat.le_add_right 1 j, by simp⟩

section
variable {s : State} {f : Fault}

theorem execEntDc_ne_fault (hpred : -1024 ≤ s.pred ∧ s.pred ≤ 1016) (hzz : -1024 ≤ s.zz[0] ∧ s.zz[0] ≤ 1016) :
    execEntDc s ≠ .fault f := by
  have hdelta : ((if 0 < s.len.val then s.zz[0] else 0) - s.pred).natAbs < 2 ^ 11 := by
    split <;> omega
  have hcoded := coded_dcHuff ((bitlen_le_iff _ 11).mpr hdelta)
  exact ((writeItem_noFault hcoded _ _ _).goto _).finish s f

theorem execEntAc_ne_fault (hzz : ∀ k : Fin 64, 1 ≤ k.val → s.zz[k].natAbs ≤ 1020) : execEntAc s ≠ .fault f := by
  refine ((scanAc_noFault (fun v hv => ?_) _).goto _).finish s f
  obtain ⟨k, hk, rfl⟩ := exists_of_mem_scannedEntries hv
  exact (hzz k hk).trans_lt (by decide)

theorem execEntEob_ne_fault : execEntEob s ≠ .fault f := by
  refine Res.NoFault.finish (Res.NoFault.goto ?_ _) s f
  split
  · exact writeItem_noFault coded_eob 0 _ s
  · exact noFault_ok s

/-! ## The other operations -/

theorem execBlkFetch_ne_fault (h : s.blkX < s.width ∧ s.blkY < s.height) : execBlkFetch s ≠ .fault f := by
  rw [execBlkFetch_inside h]
  exact nofun

theorem execEncode_ne_fault (d : BitVec 31) : execEncode d s ≠ .fault f := by
  unfold execEncode
  split <;> exact nofun

theorem header_ne_fault (bytes : List Byte) (p : Phase) : header bytes p s ≠ .fault f :=
  ((emit_noFault bytes s).goto p).finish s f

/-! ## Steps -/

/-- The operation of PHASE does not fault where the invariants hold. -/
theorem operation_ne_fault {i : Instr} (hs : Inv s) (hv : ValueInv s) (hi : (transition s.phase).operation = some i) :
    exec i s ≠ .fault f := by
  have hinside := hs.inside
  have hzz := hv.zzHeld
  cases hp : s.phase <;> rw [hp] at hi hinside hzz <;> cases hi
  case check | qtb | quant =>
    refine Res.NoFault.finish ?_ s f
    split <;> exact nofun
  case hdrSoi | hdrApp0 | hdrDqt | hdrSof0 | hdrDhtDc | hdrDhtAc | hdrSos => exact header_ne_fault _ _
  case blkFetch => exact execBlkFetch_ne_fault (hinside (by decide))
  case entDc =>
    obtain ⟨hdc, -, -⟩ := hzz (by decide)
    exact execEntDc_ne_fault hv.predRange hdc
  case entAc =>
    obtain ⟨-, hac, -⟩ := hzz (by decide)
    exact execEntAc_ne_fault hac
  case entEob => exact execEntEob_ne_fault
  case hdrEoi => exact ((emit_noFault _ s).map _).finish s f
  case fdct | zigzag | blkNext | bwFinal => exact nofun

theorem sequencerTurn_ne_fault (hs : Inv s) (hv : ValueInv s) : sequencerTurn s ≠ .fault f := by
  have htable := decode_phaseCode s.phase
  unfold sequencerTurn
  split
  · split
    · rename_i i hi
      rw [hi] at htable
      exact operation_ne_fault hs hv htable.symm
    · exact nofun
  · exact nofun

theorem pollStatus_ne_fault (hs : Inv s) (hv : ValueInv s) (rest : List Input) : pollStatus rest s ≠ .fault f := by
  have hread := hostMoved_rdata s (regValue s 0x04)
  unfold pollStatus
  dsimp only
  split
  · exact sequencerTurn_ne_fault (hs.hostMoved hread) (hv.hostMoved hread)
  · exact nofun

/-- No access of the host faults: the one operation it can start is ENCODE (R111). -/
theorem hostAccess_ne_fault (access : HostAccess) : hostAccess access s ≠ .fault f := by
  cases access with
  | regWrite offset width data =>
    simp only [hostAccess]
    split
    · exact nofun
    · split
      · rename_i hd
        obtain ⟨d, rfl⟩ := decode_host_ok hd
        exact execEncode_ne_fault d
      · exact nofun
  | outRead addr =>
    simp only [hostAccess]
    split
    · exact nofun
    · split <;> exact nofun
  | regRead | imgRead | imgWrite | rdOut =>
    simp only [hostAccess]
    split <;> exact nofun
  | collect | reset => exact nofun

end

/-- Settles O47: the operation of PHASE does not fault where the invariants hold, and no access of the host does. -/
theorem noStepFaults : Obligations.NoStepFaults := by
  intro s f hs hv
  unfold step runNext
  split
  · exact sequencerTurn_ne_fault hs hv
  · rename_i hin
    have htaken := hostMoved_taken hin
    exact sequencerTurn_ne_fault (hs.hostMoved htaken) (hv.hostMoved htaken)
  · exact hostAccess_ne_fault _
  · exact pollStatus_ne_fault hs hv _
  · rename_i hin
    have hhost := hs.fromHost
    rw [hin] at hhost
    cases hhost

end Sys2Proof.Machine
end

section
/-! # The real numbers that sums and products of exact reals stand for

The arithmetic of the row and column passes (R193, R194) against the reals. A sum needs denominators other than 0, so the
relation below carries that beside the value. -/

namespace Sys2Proof

open Sys2Proof.Spec

/-! ## Products of combinations -/

/-- A combination's value, taken coefficient by coefficient. -/
theorem sum_toList_cos16 (a : Cos8) : (a.toList.zipIdx.map fun p => (p.1 : ℝ) * cos16 p.2).sum = cosValue a := by
  simp [Cos8.toList, List.zipIdx, cosValue_eq, add_assoc]

theorem cosValue_mulTwice (a b : Cos8) : cosValue (a.mulTwice b) = 2 * (cosValue a * cosValue b) := by
  have hterm : ∀ p q : ℤ × ℕ, cosValue (Cos8.smul (p.1 * q.1) (twiceCosCos p.2 q.2))
      = 2 * (p.1 * cos16 p.2 * (q.1 * cos16 q.2)) := fun p q => by
    rw [cosValue_smul, cosValue_twiceCosCos]
    push_cast
    ring
  simp only [Cos8.mulTwice, cosValue_sum, List.map_map, Function.comp_def, hterm, List.sum_map_mul_left,
    List.sum_map_mul_right, sum_toList_cos16]

/-! ## Exact reals with a denominator -/

/-- `x` has a denominator and stands for the real number `r`. -/
def ExactReal.Denotes (x : ExactReal) (r : ℝ) : Prop := x.den ≠ 0 ∧ value x = r

namespace ExactReal.Denotes

variable {x y : ExactReal} {a b : ℝ}

theorem congr (h : x.Denotes a) (hab : a = b) : x.Denotes b := hab ▸ h

theorem ofInt (n : ℤ) : (ofInt n).Denotes n :=
  ⟨one_ne_zero, by simp [value, ExactReal.ofInt, cosValue_unit]⟩

/-- The constants DCTK but the first (R193). -/
theorem dctk {k : ℕ} (hk : k ≠ 0) : (dctk k).Denotes (cos16 k / 2) :=
  ⟨two_ne_zero, by simp [value, Sys2Proof.dctk, hk, cosValue_cosTerm]⟩

theorem add (hx : x.Denotes a) (hy : y.Denotes b) : (x.add y).Denotes (a + b) := by
  obtain ⟨hxd, rfl⟩ := hx
  obtain ⟨hyd, rfl⟩ := hy
  have hxd' : (x.den : ℝ) ≠ 0 := by exact_mod_cast hxd
  have hyd' : (y.den : ℝ) ≠ 0 := by exact_mod_cast hyd
  refine ⟨Nat.mul_ne_zero hxd hyd, ?_⟩
  simp only [value, ExactReal.add, cosValue_add, cosValue_smul]
  push_cast
  field_simp

theorem neg (hx : x.Denotes a) : x.neg.Denotes (-a) := by
  obtain ⟨hxd, rfl⟩ := hx
  exact ⟨hxd, by simp only [value, ExactReal.neg, cosValue_neg, neg_div]⟩

theorem sub (hx : x.Denotes a) (hy : y.Denotes b) : (x.sub y).Denotes (a - b) := sub_eq_add_neg a b ▸ hx.add hy.neg

theorem mul (hx : x.Denotes a) (hy : y.Denotes b) : (x.mul y).Denotes (a * b) := by
  obtain ⟨hxd, rfl⟩ := hx
  obtain ⟨hyd, rfl⟩ := hy
  refine ⟨Nat.mul_ne_zero (Nat.mul_ne_zero two_ne_zero hxd) hyd, ?_⟩
  simp only [value, ExactReal.mul, cosValue_mulTwice]
  push_cast
  rw [div_mul_div_comm, mul_assoc (2 : ℝ), mul_div_mul_left _ _ two_ne_zero]

/-- A product with one of the constants DCTK but the first. -/
theorem times (k : ℕ) (hx : x.Denotes a) (hk : k ≠ 0 := by decide) : ((Sys2Proof.dctk k).mul x).Denotes (cos16 k / 2 * a) :=
  (dctk hk).mul hx

end ExactReal.Denotes

/-! ## Cosines with the same combination -/

theorem cos16_congr {m n : ℕ} (h : cosTerm m = cosTerm n) : cos16 m = cos16 n := by
  rw [← cosValue_cosTerm, h, cosValue_cosTerm]

theorem cos16_eq_neg {m n : ℕ} (h : cosTerm m = (cosTerm n).neg) : cos16 m = -cos16 n := by
  rw [← cosValue_cosTerm, h, cosValue_neg, cosValue_cosTerm]

end Sys2Proof
end

section
/-! # The forward DCT as the reference transform (42_forward_dct.md)

The operation's kernel is `C(k)·cos((2j+1)kπ/16)` (R191), so its sum is the reference sum. The kernel is even or odd about
the middle of a row, which folds the eight terms of a pass into the four of the butterfly (R194). -/

namespace Sys2Proof.Machine

open Sys2Proof.Spec ExactReal.Denotes

/-! ## The kernel -/

theorem cos16_dctAngle (k j : Fin 8) : cos16 (dctAngle k j) = normC k * Real.cos ((2 * j.val + 1) * k.val * Real.pi / 16) := by
  by_cases hk : k = 0
  · subst hk
    have hangle : ((4 : ℕ) : ℝ) * Real.pi / 16 = Real.pi / 4 := by push_cast; ring
    have hleft : cos16 4 = 1 / Real.sqrt 2 := by rw [cos16, hangle, Real.cos_pi_div_four, Real.sqrt_div_self']
    simp [dctAngle, normC, hleft]
  · have hk' : k.val ≠ 0 := Fin.val_ne_zero_iff.mpr hk
    rw [dctAngle, if_neg hk', normC, if_neg hk, one_mul, cos16]
    push_cast
    rfl

/-- The kernel is even about the middle of a row for even frequencies and odd for odd ones. -/
theorem cos16_dctAngle_mirror (k j : ℕ) (hj : j ≤ 7) :
    cos16 (dctAngle k (7 - j)) = (-1) ^ k * cos16 (dctAngle k j) := by
  by_cases hk : k = 0
  · simp [dctAngle, hk]
  · have hangle : (((2 * (7 - j) + 1) * k : ℕ) : ℝ) * Real.pi / 16
        = k * Real.pi - ((2 * j + 1) * k : ℕ) * Real.pi / 16 := by
      push_cast [Nat.cast_sub hj]
      ring
    rw [dctAngle, if_neg hk, dctAngle, if_neg hk, cos16, cos16, hangle, Real.cos_nat_mul_pi_sub]

/-! ## The operation -/

theorem value_dctCoef_eq_refDct (samp : Vector Byte 64) (u v : Fin 8) : value (dctCoef samp u v) = refDct samp u v := by
  rw [value_dctCoef, refDct, Fintype.sum_prod_type, mul_assoc (1 / 4), mul_assoc (1 / 4)]
  congr 1
  simp only [Finset.mul_sum, cos16_dctAngle, shifted]
  refine Finset.sum_congr rfl fun y _ => Finset.sum_congr rfl fun x _ => ?_
  push_cast
  ring

theorem dctBlock_get (samp : Vector Byte 64) (i : Fin 64) : (dctBlock samp)[i]
    = dctCoef samp ⟨i.val % 8, Nat.mod_lt _ (by decide)⟩ ⟨i.val / 8, by omega⟩ := tabulate_get _ i

theorem dctBlock_getElem (samp : Vector Byte 64) (u v : Fin 8) : (dctBlock samp)[8 * v.val + u.val] = dctCoef samp u v := by
  have hu : (8 * v.val + u.val) % 8 = u.val := by omega
  have hv : (8 * v.val + u.val) / 8 = v.val := by omega
  simp only [dctBlock, tabulate_getElem, hu, hv]

/-- Settles O27: the kernel's sum is the reference sum. -/
theorem fdctIsTheReferenceTransform : Obligations.FdctIsTheReferenceTransform := fun s =>
  ⟨_, exec_fdct s, rfl, fun u v =>
    (congrArg value (dctBlock_getElem s.samp u v)).trans (value_dctCoef_eq_refDct s.samp u v)⟩

/-! ## The butterfly -/

/-- The 1-D transform folded about the middle of the row. -/
theorem sum_dctAngle_folded (r : Fin 8 → ℝ) (k : ℕ) : ∑ j : Fin 8, r j * cos16 (dctAngle k j)
    = (r 0 + (-1) ^ k * r 7) * cos16 (dctAngle k 0) + (r 1 + (-1) ^ k * r 6) * cos16 (dctAngle k 1)
      + (r 2 + (-1) ^ k * r 5) * cos16 (dctAngle k 2) + (r 3 + (-1) ^ k * r 4) * cos16 (dctAngle k 3) := by
  have h4 : cos16 (dctAngle k 4) = _ := cos16_dctAngle_mirror k 3 (by decide)
  have h5 : cos16 (dctAngle k 5) = _ := cos16_dctAngle_mirror k 2 (by decide)
  have h6 : cos16 (dctAngle k 6) = _ := cos16_dctAngle_mirror k 1 (by decide)
  have h7 : cos16 (dctAngle k 7) = _ := cos16_dctAngle_mirror k 0 (by decide)
  simp only [Fin.sum_univ_eight, Fin.coe_ofNat_eq_mod, Nat.reduceMod, h4, h5, h6, h7]
  ring

/-- The kernel's angles beyond 8π/16, folded back to those of the constants DCTK (R193). -/
theorem cos16_folded : cos16 9 = -cos16 7 ∧ cos16 10 = -cos16 6 ∧ cos16 12 = -cos16 4 ∧ cos16 14 = -cos16 2 ∧
    cos16 15 = -cos16 1 ∧ cos16 18 = -cos16 2 ∧ cos16 20 = -cos16 4 ∧ cos16 21 = -cos16 5 ∧ cos16 25 = cos16 7 ∧
    cos16 28 = cos16 4 ∧ cos16 30 = cos16 2 ∧ cos16 35 = cos16 3 ∧ cos16 42 = -cos16 6 ∧ cos16 49 = -cos16 1 :=
  ⟨cos16_eq_neg rfl, cos16_eq_neg rfl, cos16_eq_neg rfl, cos16_eq_neg rfl, cos16_eq_neg rfl, cos16_eq_neg rfl,
    cos16_eq_neg rfl, cos16_eq_neg rfl, cos16_congr rfl, cos16_congr rfl, cos16_congr rfl, cos16_congr rfl,
    cos16_eq_neg rfl, cos16_eq_neg rfl⟩

/-- The butterfly is the 1-D transform: each of its rows is the folded sum with the kernel's cosines as signed constants. -/
theorem dct1_denotes {t : Fin 8 → ExactReal} {r : Fin 8 → ℝ} (ht : ∀ j, (t j).Denotes (r j)) (k : Fin 8) :
    (dct1 t k).Denotes (1 / 2 * ∑ j : Fin 8, r j * cos16 (dctAngle k j)) := by
  have a (i j : Fin 8) := (ht i).add (ht j)
  have b (i j : Fin 8) := (ht i).sub (ht j)
  rw [sum_dctAngle_folded]
  refine match k with
    | 0 => (times 4 ((((a 0 7).add (a 1 6)).add (a 2 5)).add (a 3 4))).congr ?_
    | 4 => (times 4 ((((a 0 7).sub (a 1 6)).sub (a 2 5)).add (a 3 4))).congr ?_
    | 2 => ((times 2 ((a 0 7).sub (a 3 4))).add (times 6 ((a 1 6).sub (a 2 5)))).congr ?_
    | 6 => ((times 6 ((a 0 7).sub (a 3 4))).sub (times 2 ((a 1 6).sub (a 2 5)))).congr ?_
    | 1 => ((((times 1 (b 0 7)).add (times 3 (b 1 6))).add (times 5 (b 2 5))).add (times 7 (b 3 4))).congr ?_
    | 3 => ((((times 3 (b 0 7)).sub (times 7 (b 1 6))).sub (times 1 (b 2 5))).sub (times 5 (b 3 4))).congr ?_
    | 5 => ((((times 5 (b 0 7)).sub (times 1 (b 1 6))).add (times 7 (b 2 5))).add (times 3 (b 3 4))).congr ?_
    | 7 => ((((times 7 (b 0 7)).sub (times 5 (b 1 6))).add (times 3 (b 2 5))).sub (times 1 (b 3 4))).congr ?_
  all_goals
    simp only [dctAngle, Fin.coe_ofNat_eq_mod, Nat.reduceMod, OfNat.ofNat_ne_zero, one_ne_zero, if_true, if_false,
      Nat.reduceMul, Nat.reduceAdd, cos16_folded]
    ring

/-- Settles O28: the column pass over the row pass is the kernel's sum, row by row. -/
theorem separableFormComputesTheSameReals : Obligations.SeparableFormComputesTheSameReals := by
  intro samp u v
  have hrow (y : Fin 8) := dct1_denotes (fun x => ExactReal.Denotes.ofInt (shifted samp x y)) u
  obtain ⟨-, hvalue⟩ := dct1_denotes hrow v
  rw [← value_dctCoef_eq_refDct, value_dctCoef, dctFast, hvalue, Fintype.sum_prod_type]
  simp only [Finset.mul_sum, Finset.sum_mul]
  refine Finset.sum_congr rfl fun y _ => Finset.sum_congr rfl fun x _ => ?_
  ring

/-! ## The ranges -/

/-- A sum over the 64 positions, by row and column. -/
theorem sum_rowMajor (f : Fin 64 → ℤ) :
    ∑ i, f i = ∑ p : Fin 8 × Fin 8, f ⟨8 * p.1.val + p.2.val, by omega⟩ := by
  rw [← (finProdFinEquiv (m := 8) (n := 8)).sum_comp f]
  exact Finset.sum_congr rfl fun p _ => congrArg f (Fin.ext (Nat.add_comm _ _))

theorem sum_shifted (samp : Vector Byte 64) :
    ∑ p : Fin 8 × Fin 8, shifted samp p.2 p.1 = sampleSum samp - 8192 := by
  simp [sampleSum, sum_rowMajor, shifted, Finset.sum_sub_distrib]

/-- The pattern that reaches the bound, along a row and along a column (R197): all of its kernel's cosines have one size. -/
theorem dctBlock_extreme :
    (dctBlock (tabulate fun i => if i.val % 8 ∈ [0, 3, 4, 7] then 255 else 0))[4] = ⟨Cos8.unit 0 8160, 8⟩ ∧
    (dctBlock (tabulate fun i => if i.val / 8 ∈ [0, 3, 4, 7] then 255 else 0))[32] = ⟨Cos8.unit 0 8160, 8⟩ := by
  decide +kernel

theorem value_extreme : value ⟨Cos8.unit 0 8160, 8⟩ = 1020 := by
  rw [value, cosValue_unit (by decide), cos16_zero]
  norm_num

/-- Settles O29: DC is an eighth of the shifted sum, the others by Cauchy and Schwarz, the two patterns by evaluation. -/
theorem coefficientRanges : Obligations.CoefficientRanges := by
  obtain ⟨hrow, hcol⟩ := dctBlock_extreme
  refine ⟨fun samp => ?_, hrow ▸ value_extreme, hcol ▸ value_extreme⟩
  have hdc : (dctBlock samp)[0] = dctCoef samp 0 0 := dctBlock_getElem samp 0 0
  rw [hdc]
  obtain ⟨hlo, hhi⟩ := value_dctCoef_dc_bounds samp
  refine ⟨by rw [value_dctCoef_dc, sum_shifted]; push_cast; rfl, hlo, hhi, fun i hi => ?_⟩
  rw [dctBlock_get]
  refine abs_value_dctCoef_le samp ?_
  simp only [ne_eq, Fin.ext_iff, Fin.val_zero] at hi ⊢
  omega

end Sys2Proof.Machine
end

section
/-! # The quantizer and the zigzag scanner: QUANT, ZIGZAG (43_quantizer_zigzag.md) -/

namespace Sys2Proof.Machine

open Sys2Proof.Spec

/-! ## ZIGZAG -/

theorem exec_zigzag (s : State) : exec .zigzag s
    = .next ({ s with zz := scanned s.quo, len := countNonzero (scanned s.quo) }.goto .entDc) := rfl

theorem scanned_get (quo : Vector ExactReal 64) (k : Fin 64) : (scanned quo)[k] = truncReal (value quo[Rom.zigzag[k]]) :=
  (tabulate_get _ k).trans (ExactReal.trunc_eq _)

/-- The count that ZIGZAG takes along the list of entries is the number of positions with a nonzero entry. -/
theorem countNonzero_eq_card (zz : Vector ℤ 64) :
    (countNonzero zz).val = (Finset.univ.filter fun k : Fin 64 => zz[k] ≠ 0).card := by
  have hlist : zz.toList = (List.finRange 64).map fun k => zz[k] := List.ext_getElem (by simp) (by simp)
  calc (countNonzero zz).val = ((List.finRange 64).map fun k => zz[k]).countP fun v => v ≠ 0 := by rw [← hlist]; rfl
    _ = (Finset.univ.filter fun k : Fin 64 => zz[k] ≠ 0).card := by
      rw [List.countP_map, List.countP_eq_length_filter]
      rfl

/-- Settles O31: the sign decisions truncate the exact real, and the list's count is the number of positions. -/
theorem zigzagTruncatesTheExactQuotients : Obligations.ZigzagTruncatesTheExactQuotients := fun s =>
  ⟨_, exec_zigzag s, rfl, scanned_get s.quo, countNonzero_eq_card _⟩

/-! ## QUANT -/

theorem exec_quant_of_noZero {s : State} (h : zeroEntry s.qt = none) :
    exec .quant s = .next ({ s with quo := quotients s }.goto .zigzag) := by
  change execQuant s = _
  rw [execQuant, h, finish_ok]

theorem value_quotients_get (s : State) (i : Fin 64) : value (quotients s)[i] = value s.coef[i] / s.qt[i].toNat := by
  rw [quotients, tabulate_get, value_divNat]

/-- Settles O30: the search finds the least zero entry; without one every quotient is exact. -/
theorem quantDividesAtTheSameIndex : Obligations.QuantDividesAtTheSameIndex := fun s =>
  ⟨fun _ hzero hbefore => exec_quant_degenerate (zeroEntry_eq_some hzero hbefore),
    fun h => ⟨_, exec_quant_of_noZero (zeroEntry_none.mpr h), rfl, value_quotients_get s⟩⟩

/-! ## FDCT, QUANT and ZIGZAG in a row -/

theorem truncReal_ratCast (x : ℚ) : truncReal x = truncRat x := by
  simp only [truncReal, truncRat, Rat.cast_nonneg, ← Rat.cast_neg, Rat.floor_cast]

theorem truncReal_intCast_div (n : ℤ) {d : ℤ} (hd : 0 < d) : truncReal ((n : ℝ) / d) = n.tdiv d := by
  rw [← truncRat_div n hd, ← truncReal_ratCast]
  push_cast
  rfl

/-- The DC entry of a block is an integer division of its level-shifted sample sum (R217). -/
theorem scanned_dc {s : State} (hcoef : s.coef = dctBlock s.samp) (hqt : 0 < s.qt[0].toNat) :
    (scanned (quotients s))[0] = (sampleSum s.samp - 8192).tdiv (8 * s.qt[0].toNat) := by
  have hquo : (scanned (quotients s))[0] = ((dctCoef s.samp 0 0).divNat s.qt[0].toNat).trunc := scanned_quotients hcoef 0
  rw [hquo, ExactReal.trunc_eq, value_divNat, value_dctCoef_dc, sum_shifted, div_div,
    ← truncReal_intCast_div _ (by omega)]
  push_cast
  rfl

/-- `s` past FDCT. -/
def State.transformed (s : State) : State := { s with coef := dctBlock s.samp }.goto .quant

/-- Settles O32: DC is a truncated fraction of integers, and the ranges are those of the coefficients. -/
theorem quantizedEntriesStayInRange : Obligations.QuantizedEntriesStayInRange := by
  intro s hqt
  have hnone : zeroEntry s.transformed.qt = none := zeroEntry_none.mpr hqt
  have hpos : 0 < s.qt[0].toNat := Nat.pos_of_ne_zero fun h => hqt 0 (BitVec.eq_of_toNat_eq h)
  obtain ⟨⟨hlo, hhi⟩, hac⟩ := scanned_bounds (s := s.transformed) rfl hnone
  exact ⟨s.transformed, _, _, exec_fdct s, exec_quant_of_noZero hnone, exec_zigzag _,
    scanned_dc (s := s.transformed) rfl hpos, hlo, hhi, hac⟩

end Sys2Proof.Machine
end

section
/-! # The entropy encoder: ENT.DC, ENT.AC, ENT.EOB (44_entropy_encoder.md)

Each of the three sends a string of bits and makes a change that leaves the stream alone (`Sends`); the parts of an operation
compose by joining their bits (`Sends.bind`). -/

namespace Sys2Proof.Machine

open Sys2Proof.Spec

variable {s : State} {g after : State → State} {k f f' h : State → Res} {xs ys bits : List Bool} {v : ℤ}

/-! ## Changes beside the stream -/

/-- It makes no difference whether the state is changed before or after `f`. -/
def Commutes (g : State → State) (f : State → Res) : Prop := ∀ s, f (g s) = (f s).map g

theorem Commutes.bind (hf : Commutes g f) (hf' : Commutes g f') : Commutes g fun s => (f s).bind f' := fun s => by
  dsimp only
  rw [hf s]
  cases f s with
  | error e => rfl
  | ok u => exact hf' u

theorem Commutes.map (hf : Commutes g f) (after : State → State) (hafter : ∀ u, after (g u) = g (after u)) :
    Commutes g fun s => (f s).map after :=
  hf.bind (f' := fun u => .ok (after u)) fun u => congrArg Except.ok (hafter u)

/-- A change that an emission neither sees nor touches: OUT, OUTLEN, OUT_CAP, ACC and ACCN stay. -/
structure OffStream (g : State → State) : Prop where
  outCap : ∀ s, (g s).outCap = s.outCap
  outlen : ∀ s, (g s).outlen = s.outlen
  acc : ∀ s, (g s).acc = s.acc
  accn : ∀ s, (g s).accn = s.accn
  pushOut : ∀ s b, (g s).pushOut b = g (s.pushOut b)
  withBits : ∀ s acc accn, (g s).withBits acc accn = g (s.withBits acc accn)

theorem offStream_id : OffStream id :=
  ⟨fun _ => rfl, fun _ => rfl, fun _ => rfl, fun _ => rfl, fun _ _ => rfl, fun _ _ _ => rfl⟩

theorem offStream_withNz (n : ℕ) : OffStream (State.withNz · n) :=
  ⟨fun _ => rfl, fun _ => rfl, fun _ => rfl, fun _ => rfl, fun _ _ => rfl, fun _ _ _ => rfl⟩

theorem offStream_withPred (v : ℤ) : OffStream (State.withPred · v) :=
  ⟨fun _ => rfl, fun _ => rfl, fun _ => rfl, fun _ => rfl, fun _ _ => rfl, fun _ _ _ => rfl⟩

section
variable (hg : OffStream g)
include hg

theorem OffStream.append (b : Byte) : Commutes g (append b) := fun s => by
  have hfull : (g s).outFull = s.outFull := by rw [State.outFull, State.outFull, hg.outCap, hg.outlen]
  cases hs : s.outFull with
  | true => rw [append_full hs, append_full (hfull.trans hs), hg.outlen]; rfl
  | false => rw [append_ok hs, append_ok (hfull.trans hs), hg.pushOut]; rfl

theorem OffStream.emit (bytes : List Byte) : Commutes g (emit bytes) := by
  induction bytes with
  | nil => exact fun _ => rfl
  | cons b bytes ih => exact (hg.append b).bind ih

theorem OffStream.drain (fuel : ℕ) : Commutes g (drain fuel) := by
  induction fuel with
  | zero => exact fun _ => rfl
  | succ fuel ih =>
    intro s
    unfold Machine.drain
    rw [hg.accn, hg.acc, hg.withBits]
    split
    · exact ((hg.emit _).bind ih) _
    · rfl

theorem OffStream.bwWrite (bits nbits : ℕ) : Commutes g (bwWrite bits nbits) := fun s => by
  unfold Machine.bwWrite
  dsimp only
  rw [hg.accn, hg.acc, hg.withBits]
  exact hg.drain _ _

theorem OffStream.writeCode (table : List (ℕ × Codeword)) (symbol : ℕ) : Commutes g (writeCode table symbol) := fun s => by
  unfold Machine.writeCode
  split
  · rfl
  · exact hg.bwWrite _ _ s

theorem OffStream.writeMag (mag c : ℕ) : Commutes g (writeMag mag c) := fun s => by
  unfold Machine.writeMag
  split
  · exact hg.bwWrite mag c s
  · rfl

theorem OffStream.writeAc (symbol mag : ℕ) : Commutes g (writeAc symbol mag) :=
  (hg.writeCode _ symbol).bind (hg.writeMag mag _)

end

/-! ## Sending bits -/

/-- With fewer than eight bits buffered, `f` sends `bits` and then does `k`. -/
def Sends (bits : List Bool) (k f : State → Res) : Prop :=
  ∀ s, BitsHeld s → f s = (sendBits (pendingBits s ++ bits) s).bind k

theorem sends_nil (f : State → Res) : Sends [] f f := fun s ⟨h7, hacc⟩ => by
  rw [List.append_nil, sendBits_pendingBits_of_short (by omega) hacc]
  rfl

/-- What comes after `f` comes after `k`. -/
theorem Sends.andThen (hf : Sends bits k f) (h : State → Res) :
    Sends bits (fun u => (k u).bind h) fun u => (f u).bind h := fun s hs => by
  dsimp only
  rw [hf s hs]
  exact bind_assoc (m := Except Stop) _ _ _

theorem Sends.map (hf : Sends bits (fun u => .ok (after u)) f) (g : State → State) :
    Sends bits (fun u => .ok (g (after u))) fun u => (f u).map g := hf.andThen fun u => .ok (g u)

/-- One sending after another sends the bits of both. -/
theorem Sends.bind (hf : Sends xs (fun u => .ok (g u)) f) (hh : Sends ys k fun u => h (g u)) :
    Sends (xs ++ ys) k fun u => (f u).bind h := fun s hs =>
  calc (f s).bind h
    _ = (sendBits (pendingBits s ++ xs) s).bind fun u => h (g u) := hf.andThen h s hs
    _ = (sendBits (pendingBits s ++ xs) s).bind fun u => (sendBits (pendingBits u ++ ys) u).bind k :=
      sendBits_bind_congr hh _ s
    _ = ((sendBits (pendingBits s ++ xs) s).bind fun u => sendBits (pendingBits u ++ ys) u).bind k :=
      (bind_assoc (m := Except Stop) _ _ _).symm
    _ = (sendBits (pendingBits s ++ (xs ++ ys)) s).bind k := by rw [sendBits_append, List.append_assoc]

/-- A coded item, written after a change beside the stream (R120). -/
theorem sends_item {table : List (ℕ × Codeword)} {symbol : ℕ} (hg : OffStream g) (hsymbol : Coded table symbol)
    (mag c : ℕ) :
    Sends (codewordBits table symbol ++ natBits c mag) (fun u => .ok (g u))
      fun u => (writeCode table symbol (g u)).bind (writeMag mag c) := fun s hs => by
  obtain ⟨cw, hcw⟩ := Option.isSome_iff_exists.mp hsymbol
  have hitem : Commutes g fun u => (writeCode table symbol u).bind (writeMag mag c) :=
    (hg.writeCode table symbol).bind (hg.writeMag mag c)
  rw [← writeCode_bind_writeMag hs hcw]
  exact hitem s

/-! ## The state after a sending -/

/-- `s` after the bits are sent and OUT has room for their bytes. -/
def State.sent (s : State) (bits : List Bool) : State :=
  (s.appended (bytesOut s bits)).buffering (leftBits (pendingBits s ++ bits))

@[simp] theorem State.sent_zz (s : State) (bits : List Bool) : (s.sent bits).zz = s.zz := rfl

@[simp] theorem State.sent_len (s : State) (bits : List Bool) : (s.sent bits).len = s.len := rfl

@[simp] theorem State.sent_outCap (s : State) (bits : List Bool) : (s.sent bits).outCap = s.outCap := rfl

@[simp] theorem State.sent_goto (s : State) (p : Phase) (bits : List Bool) : (s.goto p).sent bits = (s.sent bits).goto p := rfl

@[simp] theorem State.sent_withPred (s : State) (v : ℤ) (bits : List Bool) :
    (s.withPred v).sent bits = (s.sent bits).withPred v := rfl

@[simp] theorem State.sent_withNz (s : State) (n : ℕ) (bits : List Bool) :
    (s.withNz n).sent bits = (s.sent bits).withNz n := rfl

@[simp] theorem bitsHeld_sent (s : State) (bits : List Bool) : BitsHeld (s.sent bits) := bitsHeld_buffering_leftBits _ _

@[simp] theorem pendingBits_sent (s : State) (bits : List Bool) :
    pendingBits (s.sent bits) = leftBits (pendingBits s ++ bits) := pendingBits_buffering _ _

@[simp] theorem bitsHeld_goto (s : State) (p : Phase) : BitsHeld (s.goto p) ↔ BitsHeld s := Iff.rfl

@[simp] theorem bitsHeld_withPred (s : State) (v : ℤ) : BitsHeld (s.withPred v) ↔ BitsHeld s := Iff.rfl

@[simp] theorem bitsHeld_withNz (s : State) (n : ℕ) : BitsHeld (s.withNz n) ↔ BitsHeld s := Iff.rfl

@[simp] theorem pendingBits_goto (s : State) (p : Phase) : pendingBits (s.goto p) = pendingBits s := rfl

@[simp] theorem pendingBits_withPred (s : State) (v : ℤ) : pendingBits (s.withPred v) = pendingBits s := rfl

@[simp] theorem pendingBits_withNz (s : State) (n : ℕ) : pendingBits (s.withNz n) = pendingBits s := rfl

theorem sendBits_of_room (hroom : Room s (bytesOut s bits).length) :
    sendBits (pendingBits s ++ bits) s = .ok (s.sent bits) :=
  congrArg (Except.map (State.buffering · (leftBits (pendingBits s ++ bits)))) (emit_of_room hroom)

theorem sendBits_of_not_room (hs : WithinCap s) (hroom : ¬Room s (bytesOut s bits).length) :
    sendBits (pendingBits s ++ bits) s = .error (.raise ⟨.outputOverflow, BitVec.ofNat 32 (s.outCap.getD 0)⟩) :=
  congrArg (Except.map (State.buffering · (leftBits (pendingBits s ++ bits)))) (emit_of_not_room hs hroom)

theorem room_of_unbounded (hcap : s.outCap = none) (n : ℕ) : Room s n := fun _ h => nomatch hcap.symm.trans h

/-- Bits sent to an unbounded buffer one after another are sent as one string. -/
theorem sent_sent (hcap : s.outCap = none) (xs ys : List Bool) : (s.sent xs).sent ys = s.sent (xs ++ ys) := by
  have hsend := sendBits_append (pendingBits s ++ xs) ys s
  have hcap' : (s.sent xs).outCap = none := hcap
  rw [List.append_assoc, sendBits_of_room (room_of_unbounded hcap _), sendBits_of_room (room_of_unbounded hcap _)] at hsend
  exact Except.ok.inj ((sendBits_of_room (room_of_unbounded hcap' _)).symm.trans hsend)

/-! ## What an operation that sends bits answers -/

/-- An operation that sends bits and makes a change beside the stream. -/
theorem Sends.emitsOrOverflows (hf : Sends bits (fun u => .ok (after u)) f) (hbits : BitsHeld s) (hs : WithinCap s)
    (hafter : ∀ u, (after u).out = u.out ∧ (after u).outlen = u.outlen ∧ (after u).acc = u.acc ∧ (after u).accn = u.accn) :
    EmitsOrOverflows s (finish s (f s)) bits after := by
  rw [hf s hbits]
  exact finish_sendBits_emitsOrOverflows hs bits hafter

/-- With room the operation ends in the bits sent and its change. -/
theorem Sends.finish_of_room (hf : Sends bits (fun u => .ok (after u)) f) (hbits : BitsHeld s)
    (hroom : Room s (bytesOut s bits).length) : finish s (f s) = .next (after (s.sent bits)) := by
  rw [hf s hbits, sendBits_of_room hroom]
  rfl

/-- An operation that sends bits and then faults, unless the bits overflow OUT. -/
theorem Sends.fault_or_overflows {e : Fault} (hf : Sends bits (fun _ => .error (.fault e)) f) (hbits : BitsHeld s)
    (hs : WithinCap s) :
    finish s (f s) = .fault e ∨ (s.outCap ≠ none ∧ finish s (f s) = .next (overflowed s)) := by
  rw [hf s hbits]
  by_cases hroom : Room s (bytesOut s bits).length
  · rw [sendBits_of_room hroom]
    exact .inl rfl
  · refine .inr ⟨fun hnone => hroom (room_of_unbounded hnone _), ?_⟩
    rw [sendBits_of_not_room hs hroom]
    rfl

/-! ## Magnitudes -/

/-- The magnitude field that the encoder writes is that of R126. -/
theorem natBits_magValue (v : ℤ) : natBits (category v) (magValue v (category v)) = magBits v := by
  have hlt := lt_two_pow_bitlen v.natAbs
  unfold magBits magValue complBits category
  rcases lt_trichotomy v 0 with hv | rfl | hv
  · rw [if_neg (by omega), if_neg (by omega)]
    congr 1
    have hcast : ((2 ^ bitlen v.natAbs : ℕ) : ℤ) = 2 ^ bitlen v.natAbs := by simp
    omega
  · rfl
  · rw [if_pos hv.le, if_pos hv]
    congr 1
    omega

/-! ## ENT.DC -/

/-- The item of a difference with a category of at most 11, the predictor and PHASE. -/
theorem entDc_sends (hv : v.natAbs < 2048) (dc : ℤ) :
    Sends (dcBits v) (fun u => .ok ((u.withPred dc).goto .entAc))
      fun u => Res.goto (writeDc (category v) (magValue v (category v)) (u.withPred dc)) .entAc := by
  have hitem := sends_item (offStream_withPred dc) (coded_dcHuff ((bitlen_le_iff v.natAbs 11).mpr hv))
    (magValue v (category v)) (category v)
  rw [natBits_magValue] at hitem
  exact hitem.map (State.goto · .entAc)

/-- No category above 11 has a codeword (R122). -/
theorem lookup_dcHuff_eq_none {c : ℕ} (hc : 11 < c) : Rom.dcHuff.lookup c = none := by
  have hall : ∀ p ∈ Rom.dcHuff, p.1 ≤ 11 := by decide
  exact List.lookup_eq_none_iff.mpr fun p hp => bne_iff_ne.mpr ((hall p hp).trans_lt hc).ne'

theorem writeDc_fault {c : ℕ} (hc : 11 < c) (mag : ℕ) (s : State) : writeDc c mag s = .error (.fault (.noCodeword c)) := by
  rw [writeDc, writeCode, lookup_dcHuff_eq_none hc]
  rfl

/-- Settles O36: below 2048 the difference has a category with a codeword, from 2048 on it has none. -/
theorem entDcCodesTheDifference : Obligations.EntDcCodesTheDifference := fun s hbits hs => by
  refine ⟨fun hlt => (entDc_sends hlt _).emitsOrOverflows hbits hs fun _ => ⟨rfl, rfl, rfl, rfl⟩, fun hge => ?_⟩
  have hcategory := not_le.mp ((bitlen_le_iff _ 11).not.mpr (not_lt.mpr hge))
  exact congrArg (fun r => finish s (Res.goto r .entAc)) (writeDc_fault hcategory _ _)

/-! ## ENT.AC -/

/-- The bits of `n` ZRLs (R236). -/
def zrlBits (n : ℕ) : List Bool := (List.replicate n (codewordBits Rom.acHuff 0xF0)).flatten

/-- The bits of a nonzero entry after `gap` zeros: ZRLs, codeword, magnitude (R236). -/
def entryBits (gap : ℕ) (v : ℤ) : List Bool :=
  zrlBits (gap / 16) ++ (codewordBits Rom.acHuff (gap % 16 * 16 + bitlen v.natAbs) ++ magBits v)

theorem zrlBits_succ (n : ℕ) :
    zrlBits (n + 1) = codewordBits Rom.acHuff 0xF0 ++ natBits (acSize 0xF0) 0 ++ zrlBits n := rfl

theorem writeZrls_of_le (h : 16 ≤ s.nz) (fuel : ℕ) :
    writeZrls (fuel + 1) s = (writeAc 0xF0 0 s).bind fun u => writeZrls fuel (u.withNz (u.nz - 16)) := if_pos h

theorem writeZrls_of_lt (h : s.nz < 16) (fuel : ℕ) : writeZrls (fuel + 1) s = .ok s := if_neg h.not_ge

theorem acBits_zero (gap : ℕ) (rest : List ℤ) : acBits gap (0 :: rest) = acBits (gap + 1) rest := if_pos rfl

theorem acBits_of_ne (hv : v ≠ 0) (gap : ℕ) (rest : List ℤ) : acBits gap (v :: rest) = entryBits gap v ++ acBits 0 rest := by
  simp only [acBits, if_neg hv, entryBits, zrlBits, List.append_assoc]

theorem scanAc_zero (rest : List ℤ) (s : State) : scanAc (0 :: rest) s = scanAc rest (s.withNz (s.nz + 1)) := if_pos rfl

theorem scanAc_of_ne (hv : v ≠ 0) (rest : List ℤ) : scanAc (v :: rest) = fun s => (writeEntry v s).bind (scanAc rest) :=
  funext fun _ => if_neg hv

theorem writeAc_sends {symbol : ℕ} (hg : OffStream g) (hsymbol : Coded Rom.acHuff symbol) (mag : ℕ) :
    Sends (codewordBits Rom.acHuff symbol ++ natBits (acSize symbol) mag) (fun u => .ok (g u))
      fun u => writeAc symbol mag (g u) := sends_item hg hsymbol mag _

/-- One ZRL for every sixteen of the zeros counted, and the rest stays in NZ (R236). -/
theorem writeZrls_sends (fuel n : ℕ) (hfuel : n / 16 ≤ fuel) :
    Sends (zrlBits (n / 16)) (fun u => .ok (u.withNz (n % 16))) fun u => writeZrls fuel (u.withNz n) := by
  induction fuel generalizing n with
  | zero =>
    rw [Nat.mod_eq_of_lt (by omega), Nat.le_zero.mp hfuel]
    exact sends_nil _
  | succ fuel ih =>
    by_cases h16 : 16 ≤ n
    · have hrest := ih (n - 16) (by omega)
      rw [← Nat.mod_eq_sub_mod h16] at hrest
      rw [show n / 16 = (n - 16) / 16 + 1 by omega, zrlBits_succ]
      have hzrl (u : State) := writeZrls_of_le (s := u.withNz n) h16 fuel
      simp only [hzrl]
      exact (writeAc_sends (offStream_withNz n) coded_zrl 0).bind hrest
    · have hdone (u : State) := writeZrls_of_lt (s := u.withNz n) (not_le.mp h16) fuel
      simp only [hdone]
      rw [Nat.mod_eq_of_lt (by omega), Nat.div_eq_of_lt (by omega)]
      exact sends_nil _

/-- A nonzero entry of category at most 10 after `n` zeros. -/
theorem writeEntry_sends (hv : v ≠ 0) (hlt : v.natAbs < 1024) (n : ℕ) :
    Sends (entryBits n v) (fun u => .ok (u.withNz 0)) fun u => writeEntry v (u.withNz n) := by
  obtain ⟨hpos, hle⟩ := category_bounds hv hlt
  have hsize : acSize (acSymbol (n % 16) (category v)) = category v := by unfold acSize acSymbol; omega
  have hitem := writeAc_sends (offStream_withNz (n % 16)) (coded_acHuff (Nat.mod_lt n (by decide)) hpos hle)
    (magValue v (category v))
  rw [hsize, natBits_magValue] at hitem
  refine (writeZrls_sends (n / 16) n le_rfl).bind ?_
  simp only [if_neg hle.not_gt]
  exact hitem.map (State.withNz · 0)

/-- An entry of category above 10 after `n` zeros: its ZRLs, and then the fault (R239). -/
theorem writeEntry_sends_fault (hge : 1024 ≤ v.natAbs) (n : ℕ) :
    Sends (zrlBits (n / 16)) (fun _ => .error (.fault (.noCodeword (acSymbol (n % 16) (category v)))))
      fun u => writeEntry v (u.withNz n) := by
  have hcategory : 10 < category v := not_le.mp ((bitlen_le_iff _ 10).not.mpr (not_lt.mpr hge))
  rw [← List.append_nil (zrlBits _)]
  refine (writeZrls_sends (n / 16) n le_rfl).bind ?_
  simp only [if_pos hcategory]
  exact sends_nil _

/-- The scan from `n` zeros on sends the entries (R236, R242). -/
theorem scanAc_sends {entries : List ℤ} (hall : ∀ v ∈ entries, v.natAbs < 1024) (n : ℕ) :
    Sends (acBits n entries) (fun u => .ok (u.withNz (trailingZeros n entries))) fun u => scanAc entries (u.withNz n) := by
  induction entries generalizing n with
  | nil => exact sends_nil _
  | cons v rest ih =>
    obtain ⟨hlt, hrest⟩ := List.forall_mem_cons.mp hall
    by_cases hv : v = 0
    · subst hv
      rw [acBits_zero, trailingZeros, if_pos rfl]
      simp only [scanAc_zero]
      exact ih hrest (n + 1)
    · rw [acBits_of_ne hv, trailingZeros, if_neg hv, scanAc_of_ne hv]
      exact (writeEntry_sends hv hlt n).bind (ih hrest 0)

theorem entAc_sends {entries : List ℤ} (hall : ∀ v ∈ entries, v.natAbs < 1024) :
    Sends (acBits 0 entries) (fun u => .ok ((u.withNz (trailingZeros 0 entries)).goto .entEob))
      fun u => Res.goto (scanAc entries (u.withNz 0)) .entEob := (scanAc_sends hall 0).map (State.goto · .entEob)

/-- The scan comes to the first entry of category above 10, and faults there (R239). -/
theorem scanAc_sends_fault {entries : List ℤ} (hex : ∃ v ∈ entries, 1024 ≤ v.natAbs) (n : ℕ) :
    ∃ bits symbol, Sends bits (fun _ => .error (.fault (.noCodeword symbol))) fun u => scanAc entries (u.withNz n) := by
  induction entries generalizing n with
  | nil => simp at hex
  | cons v rest ih =>
    by_cases hge : 1024 ≤ v.natAbs
    · rw [scanAc_of_ne (by omega)]
      exact ⟨_, _, (writeEntry_sends_fault hge n).andThen (scanAc rest)⟩
    · have hrest := ih ((List.exists_mem_cons_iff ..).mp hex |>.resolve_left hge)
      by_cases hv : v = 0
      · subst hv
        simp only [scanAc_zero]
        exact hrest (n + 1)
      · obtain ⟨bits, symbol, hfault⟩ := hrest 0
        rw [scanAc_of_ne hv]
        exact ⟨_, symbol, (writeEntry_sends hv (not_le.mp hge) n).bind hfault⟩

/-- Settles O37: the scan sends the entries, up to the first one without a codeword if there is one. -/
theorem entAcCodesTheExaminedEntries : Obligations.EntAcCodesTheExaminedEntries := fun s hbits hs => by
  refine ⟨fun hall => (entAc_sends hall).emitsOrOverflows hbits hs fun _ => ⟨rfl, rfl, rfl, rfl⟩, fun hex => ?_⟩
  obtain ⟨bits, symbol, hfault⟩ := scanAc_sends_fault hex 0
  exact ((hfault.andThen fun u => .ok (u.goto .entEob)).fault_or_overflows hbits hs).imp (fun h => ⟨symbol, h⟩) id

/-! ### The entries not examined -/

/-- `s` with another ZZ. -/
def State.withZz (s : State) (zz : Vector ℤ 64) : State := { s with zz := zz }

theorem offStream_withZz (zz : Vector ℤ 64) : OffStream (State.withZz · zz) :=
  ⟨fun _ => rfl, fun _ => rfl, fun _ => rfl, fun _ => rfl, fun _ _ => rfl, fun _ _ _ => rfl⟩

theorem writeZrls_withZz (zz : Vector ℤ 64) (fuel : ℕ) : Commutes (State.withZz · zz) (writeZrls fuel) := by
  induction fuel with
  | zero => exact fun _ => rfl
  | succ fuel ih =>
    have hrest : Commutes (State.withZz · zz) fun u => writeZrls fuel (u.withNz (u.nz - 16)) :=
      fun u => ih (u.withNz (u.nz - 16))
    intro s
    by_cases h16 : 16 ≤ s.nz
    · rw [writeZrls_of_le h16, writeZrls_of_le (s := s.withZz zz) h16]
      exact ((offStream_withZz zz).writeAc 0xF0 0).bind hrest s
    · rw [writeZrls_of_lt (not_le.mp h16), writeZrls_of_lt (s := s.withZz zz) (not_le.mp h16)]
      rfl

theorem writeEntry_withZz (zz : Vector ℤ 64) (v : ℤ) : Commutes (State.withZz · zz) (writeEntry v) := fun s => by
  refine (writeZrls_withZz zz (s.nz / 16)).bind (fun u => ?_) s
  dsimp only
  split
  · rfl
  · exact ((offStream_withZz zz).writeAc _ _).map (State.withNz · 0) (fun _ => rfl) u

theorem scanAc_withZz (zz : Vector ℤ 64) (entries : List ℤ) : Commutes (State.withZz · zz) (scanAc entries) := by
  induction entries with
  | nil => exact fun _ => rfl
  | cons v rest ih =>
    by_cases hv : v = 0
    · subst hv
      exact fun s => ih (s.withNz (s.nz + 1))
    · rw [scanAc_of_ne hv]
      exact (writeEntry_withZz zz v).bind ih

/-- What `finish` answers goes with a change that the error entry does not see. -/
theorem finish_withZz {r : Res} {t : State} (zz : Vector ℤ 64) (h : finish s r = .next t) :
    finish (s.withZz zz) (r.map (State.withZz · zz)) = .next (t.withZz zz) := by
  rcases finish_next h with rfl | ⟨e, rfl, rfl⟩ <;> rfl

theorem scannedEntries_withZz {zz : Vector ℤ 64} (h : ∀ k : Fin 64, 1 ≤ k.val → k.val < s.len.val → zz[k] = s.zz[k]) :
    scannedEntries (s.withZz zz) = scannedEntries s := by
  refine List.ext_getElem (by simp [scannedEntries, State.withZz]) fun j _ hj => ?_
  have hj' : j < s.len.val - 1 := hj.trans_le (List.length_take_le _ _)
  simpa [scannedEntries, State.withZz] using h ⟨j + 1, by omega⟩ (Nat.le_add_left 1 j) (by dsimp only; omega)

/-- Settles O38: the scan runs over the entries below LEN and carries ZZ along. -/
theorem entriesFromLenOnAreDropped : Obligations.EntriesFromLenOnAreDropped := fun s t zz hzz hnext => by
  have hscan := ((scanAc_withZz zz (scannedEntries s)).map (State.goto · .entEob) fun _ => rfl) (s.withNz 0)
  have hexec : execEntAc (s.withZz zz) =
      finish (s.withZz zz) ((Res.goto (scanAc (scannedEntries s) (s.withNz 0)) .entEob).map (State.withZz · zz)) := by
    rw [execEntAc, scannedEntries_withZz hzz]
    exact congrArg _ hscan
  exact hexec.trans (finish_withZz zz hnext)

/-! ## ENT.EOB -/

/-- The end-of-block item, if the count asks for it, and PHASE. -/
theorem entEob_sends (len : ℕ) :
    Sends (eobBits len) (fun u => .ok (u.goto .blkNext))
      fun u => Res.goto (if len < 64 then writeAc 0x00 0 u else .ok u) .blkNext := by
  unfold eobBits
  split
  · exact (writeAc_sends offStream_id coded_eob 0).map (State.goto · .blkNext)
  · exact sends_nil _

/-- Settles O39: the two sides of the test of LEN; the codeword of the symbol 0 is 1010. -/
theorem entEobMarksShortBlocks : Obligations.EntEobMarksShortBlocks := fun s hbits hs =>
  (entEob_sends s.len.val).emitsOrOverflows hbits hs fun _ => ⟨rfl, rfl, rfl, rfl⟩

/-! ## The three operations on a block -/

theorem exec_entDc_of_room {dc : ℤ} (hdc : (if 0 < s.len.val then s.zz[0] else 0) = dc) (hlt : (dc - s.pred).natAbs < 2048)
    (hbits : BitsHeld s) (hroom : Room s (bytesOut s (dcBits (dc - s.pred))).length) :
    exec .entDc s = .next (((s.sent (dcBits (dc - s.pred))).withPred dc).goto .entAc) := by
  subst hdc
  exact (entDc_sends hlt _).finish_of_room hbits hroom

theorem exec_entAc_of_room (hall : ∀ v ∈ examined s.zz s.len.val, v.natAbs < 1024) (hbits : BitsHeld s)
    (hroom : Room s (bytesOut s (acBits 0 (examined s.zz s.len.val))).length) :
    exec .entAc s = .next (((s.sent (acBits 0 (examined s.zz s.len.val))).withNz
      (trailingZeros 0 (examined s.zz s.len.val))).goto .entEob) :=
  (entAc_sends hall).finish_of_room hbits hroom

theorem exec_entEob_of_room (hbits : BitsHeld s) (hroom : Room s (bytesOut s (eobBits s.len.val)).length) :
    exec .entEob s = .next ((s.sent (eobBits s.len.val)).goto .blkNext) :=
  (entEob_sends s.len.val).finish_of_room hbits hroom

/-- The three operations on one block, to an unbounded buffer: PRED takes the DC value, and the bits of all three go out in a
row (R242). -/
theorem exec_block_of_unbounded (hcap : s.outCap = none) (hbits : BitsHeld s) {dc : ℤ}
    (hdc : (if 0 < s.len.val then s.zz[0] else 0) = dc) (hlt : (dc - s.pred).natAbs < 2048)
    (hall : ∀ v ∈ examined s.zz s.len.val, v.natAbs < 1024)
    (hblock : dcBits (dc - s.pred) ++ acBits 0 (examined s.zz s.len.val) ++ eobBits s.len.val = bits) :
    ∃ t1 t2 t3, exec .entDc s = .next t1 ∧ exec .entAc t1 = .next t2 ∧ exec .entEob t2 = .next t3 ∧ t3.pred = dc ∧
      Appended s t3 (bytesOut s bits) ∧ pendingBits t3 = leftBits (pendingBits s ++ bits) := by
  refine ⟨_, _, _, exec_entDc_of_room hdc hlt hbits (room_of_unbounded hcap _),
    exec_entAc_of_room (by simpa using hall) (by simp) (room_of_unbounded (by simpa using hcap) _),
    exec_entEob_of_room (by simp) (room_of_unbounded (by simpa using hcap) _), ?_⟩
  simp only [State.goto_zz, State.withPred_zz, State.sent_zz, State.goto_len, State.withPred_len, State.withNz_len,
    State.sent_len, State.sent_goto, State.sent_withNz, State.sent_withPred, sent_sent hcap, hblock]
  exact ⟨rfl, appended_of_out_eq rfl rfl, by simp⟩

/-- Settles O40: LEN 0 leaves no entry to examine, and the three operations send 00, nothing and 1010. -/
theorem allZeroBlockIsSixBits : Obligations.AllZeroBlockIsSixBits := fun s hbits hcap _ hlen hpred => by
  have hlen0 : s.len.val = 0 := congrArg Fin.val hlen
  have hexamined : examined s.zz s.len.val = [] := by rw [hlen0]; rfl
  refine exec_block_of_unbounded hcap hbits (if_neg (by omega)) (by rw [hpred]; decide) ?_ ?_
  · rw [hexamined]
    exact List.forall_mem_nil _
  · rw [hexamined, hlen0, hpred]
    rfl

end Sys2Proof.Machine
end

section
/-! # The bit writer (45_bit_writer.md), and the shape of the emitted stream -/

namespace Sys2Proof.Machine

open Sys2Proof.Spec

variable {s t u : State} {bytes : List Byte} {bits : List Bool} {after : State → State} {r : Result} {p : Phase}

/-! ## OUT.APPEND, BW.WRITE and BW.FINALIZE -/

theorem outFull_eq_false_iff_room : s.outFull = false ↔ Room s 1 := by
  unfold State.outFull Room
  cases s.outCap with
  | none => simp
  | some cap => simp only [decide_eq_false_iff_not, not_le, Option.some.injEq, forall_eq', Nat.succ_le_iff]

/-- Settles O21: the one test of the capacity, and the byte's two read laws. -/
theorem outAppendWritesAtOutlen : Obligations.OutAppendWritesAtOutlen := fun byte s => by
  refine ⟨fun hroom => ⟨s.pushOut byte, ?_, rfl, outByte_pushOut_same s byte, outByte_pushOut_other s byte⟩,
    fun hfull => ?_⟩
  · exact congrArg (finish s) (append_ok (outFull_eq_false_iff_room.mpr hroom) byte)
  · exact congrArg (finish s) (append_full (eq_true_of_ne_false (outFull_eq_false_iff_room.not.mpr hfull)) byte)

/-- Settles O33: the emit loop sends what is buffered and the bits written, whatever their number. -/
theorem bwWriteConcatenatesBits : Obligations.BwWriteConcatenatesBits := fun bits nbits s hbits hs => by
  change EmitsOrOverflows s (finish s (bwWrite bits nbits s)) _ id
  rw [bwWrite_eq_sendBits hbits.2]
  exact sendBits_emitsOrOverflows hs _

/-- Settles O35: the operation is these three writes. -/
theorem bwFinalizeDiscardsTheRest : Obligations.BwFinalizeDiscardsTheRest := fun _ => rfl

/-! ## Bytes appended -/

theorem appended_nil (hout : t.out = s.out) (hlen : t.outlen = s.outlen) : Appended s t [] := appended_of_out_eq hout hlen

/-- An operation that did not end in ERROR has appended its bytes. -/
theorem appended_of_appendsOrOverflows (h : AppendsOrOverflows s r bytes after) (hr : r = .next t) (hp : t.phase ≠ .error) :
    Appended s t bytes := by
  by_cases hroom : Room s bytes.length
  · obtain ⟨t', ht', -, happ⟩ := h.1 hroom
    cases ht'.symm.trans hr
    exact happ
  · cases (h.2 hroom).symm.trans hr
    exact absurd rfl hp

/-- An operation that did not end in ERROR has appended the full bytes of its bits. -/
theorem appended_of_emitsOrOverflows (h : EmitsOrOverflows s r bits after) (hr : r = .next t) (hp : t.phase ≠ .error) :
    Appended s t (bytesOut s bits) := by
  by_cases hroom : Room s (bytesOut s bits).length
  · obtain ⟨t', ht', -, happ, -⟩ := h.1 hroom
    cases ht'.symm.trans hr
    exact happ
  · cases (h.2 hroom).symm.trans hr
    exact absurd rfl hp

theorem header_appended (hs : WithinCap s) (h : header bytes p s = .next t) (hp : t.phase ≠ .error) : Appended s t bytes :=
  have happends := finish_emit_appendsOrOverflows (after := (State.goto · p)) hs bytes (fun _ => rfl) fun _ => rfl
  appended_of_appendsOrOverflows happends h hp

theorem hdrEoi_appended (hs : WithinCap s) (h : exec .hdrEoi s = .next t) (hp : t.phase ≠ .error) :
    Appended s t [0xFF, 0xD9] :=
  have happends := finish_emit_appendsOrOverflows (after := State.seqDone) hs _ (fun _ => rfl) fun _ => rfl
  appended_of_appendsOrOverflows happends h hp

theorem length_segment (code : Byte) (payload : List Byte) : (segment code payload).length = payload.length + 4 := by
  simp [segment, markerBytes, be16]

/-! ## The stuffed segment -/

/-- In a stuffed string 0x00 follows every 0xFF (R128). -/
theorem getElem?_stuffed_succ (bytes : List Byte) {j : ℕ} (h : (stuffed bytes)[j]? = some 0xFF#8) :
    (stuffed bytes)[j + 1]? = some 0x00#8 := by
  induction bytes generalizing j with
  | nil => simp [stuffed] at h
  | cons b bytes ih =>
    by_cases hb : b = 0xFF#8
    · have hcons : stuffed (b :: bytes) = 0xFF#8 :: 0x00#8 :: stuffed bytes := by simp [stuffed, hb]
      rw [hcons] at h ⊢
      match j with
      | 0 => rfl
      | 1 => simp at h
      | j + 2 => exact ih h
    · have hcons : stuffed (b :: bytes) = b :: stuffed bytes := by simp [stuffed, hb]
      rw [hcons] at h ⊢
      match j with
      | 0 => exact absurd (Option.some.inj h) hb
      | j + 1 => exact ih h

/-- A span is stuffed by the bytes in it. -/
theorem Stuffed.congr {lo hi : ℕ} (h : Stuffed s lo hi) (hsame : ∀ a, a < hi → outByte t a = outByte s a) :
    Stuffed t lo hi := by
  intro a hlo hhi hff
  rw [hsame a hhi] at hff
  obtain ⟨hin, hzero⟩ := h a hlo hhi hff
  exact ⟨hin, (hsame _ hin).trans hzero⟩

/-- Stuffed bytes appended at the end of a stuffed span leave it stuffed (R267). -/
theorem Stuffed.appended {lo : ℕ} (h : Stuffed s lo s.outlen) (happ : Appended s t (stuffed bytes)) :
    Stuffed t lo t.outlen := by
  obtain ⟨hlen, hin, hout⟩ := happ
  intro a hlo hhi hff
  rw [hlen] at hhi ⊢
  by_cases ha : a < s.outlen
  · obtain ⟨hin', hzero⟩ := h.congr (fun a ha => hout a (.inl ha)) a hlo ha hff
    exact ⟨by omega, hzero⟩
  · obtain ⟨j, rfl⟩ := Nat.exists_eq_add_of_le (not_lt.mp ha)
    have hj : j < (stuffed bytes).length := by omega
    rw [hin j hj] at hff
    obtain ⟨hj', hzero⟩ := List.getElem?_eq_some_iff.mp
      (getElem?_stuffed_succ bytes (List.getElem?_eq_some_iff.mpr ⟨hj, hff⟩))
    exact ⟨by omega, (hin (j + 1) hj').trans hzero⟩

/-- The entropy coder's operations append stuffed bytes; what has no codeword faults, and leaves no next state (R262). -/
theorem entDc_appended (hbits : BitsHeld s) (hs : WithinCap s) (h : exec .entDc s = .next t) (hp : t.phase ≠ .error) :
    ∃ bytes, Appended s t (stuffed bytes) := by
  obtain ⟨hcoded, hfault⟩ := entDcCodesTheDifference s hbits hs
  rcases lt_or_ge _ 2048 with hlt | hge
  · exact ⟨_, appended_of_emitsOrOverflows (hcoded hlt) h hp⟩
  · cases (hfault hge).symm.trans h

theorem entAc_appended (hbits : BitsHeld s) (hs : WithinCap s) (h : exec .entAc s = .next t) (hp : t.phase ≠ .error) :
    ∃ bytes, Appended s t (stuffed bytes) := by
  obtain ⟨hcoded, hfault⟩ := entAcCodesTheExaminedEntries s hbits hs
  by_cases hall : ∀ v ∈ examined s.zz s.len.val, v.natAbs < 1024
  · exact ⟨_, appended_of_emitsOrOverflows (hcoded hall) h hp⟩
  · rcases hfault (by simpa using hall) with ⟨symbol, hf⟩ | ⟨-, hover⟩
    · cases hf.symm.trans h
    · cases hover.symm.trans h
      exact absurd rfl hp

theorem entEob_appended (hbits : BitsHeld s) (hs : WithinCap s) (h : exec .entEob s = .next t) (hp : t.phase ≠ .error) :
    ∃ bytes, Appended s t (stuffed bytes) :=
  ⟨_, appended_of_emitsOrOverflows (entEobMarksShortBlocks s hbits hs) h hp⟩

/-! ## What PHASE asks of the stream -/

/-- The phases past HDR.SOI. -/
def soiPhases : List Phase := headPhases.drop 3 ++ blockPhases ++ tailPhases

/-- The first two bytes are emitted, and are the SOI marker. -/
def SoiHeld (s : State) : Prop := 2 ≤ s.outlen ∧ startsWithSoi s

/-- The header is emitted, and what follows it is stuffed. -/
def SegmentHeld (s : State) : Prop := 328 ≤ s.outlen ∧ Stuffed s 328 s.outlen

theorem SoiHeld.appended (h : SoiHeld s) (happ : Appended s t bytes) : SoiHeld t := by
  obtain ⟨hlen, -, hout⟩ := happ
  obtain ⟨h2, h0, h1⟩ := h
  exact ⟨by omega, (hout 0 (.inl (by omega))).trans h0, (hout 1 (.inl (by omega))).trans h1⟩

theorem SegmentHeld.appended (h : SegmentHeld s) (happ : Appended s t (stuffed bytes)) : SegmentHeld t :=
  ⟨happ.1 ▸ h.1.trans (Nat.le_add_right _ _), h.2.appended happ⟩

/-- IDLE and ERROR ask nothing. -/
theorem streamInv_quiescent (hp : t.phase = .idle ∨ t.phase = .error) : StreamInv t := by
  constructor <;> rcases hp with hp | hp <;> rw [hp] <;> simp [headOffset, headPhases, blockPhases, tailPhases]

/-- In the header OUTLEN stands at the operation's offset. -/
theorem streamInv_of_offset (hoff : headOffset t.phase = some t.outlen) (hsoi : t.phase ∈ soiPhases → startsWithSoi t) :
    StreamInv t := by
  have hhead : t.phase ∉ blockPhases ++ tailPhases ∧ t.phase ≠ .done := by
    revert hoff
    cases t.phase <;> simp [headOffset, blockPhases, tailPhases]
  exact ⟨fun n hn => Option.some.inj (hoff.symm.trans hn), fun h => hsoi (h.resolve_right hhead.2),
    fun h => absurd h hhead.1, fun h => absurd h hhead.2⟩

/-- Past the header the stream begins with SOI and its segment is stuffed. -/
theorem streamInv_of_segment (hp : t.phase ∈ blockPhases ++ tailPhases) (hsoi : SoiHeld t) (hseg : SegmentHeld t) :
    StreamInv t := by
  have hpast : headOffset t.phase = none ∧ t.phase ≠ .done := by
    revert hp
    cases t.phase <;> simp [headOffset, blockPhases, tailPhases]
  exact ⟨fun n hn => (nomatch hpast.1.symm.trans hn), fun _ => hsoi.2, fun _ => hseg, fun h => absurd h hpast.2⟩

theorem StreamInv.soiHeld (hs : StreamInv s) (hp : s.phase ∈ soiPhases) : SoiHeld s := by
  refine ⟨?_, hs.soi (.inl hp)⟩
  by_cases hpast : s.phase ∈ blockPhases ++ tailPhases
  · have hlen := (hs.segment hpast).1
    omega
  · obtain ⟨n, hn, h2⟩ : ∃ n, headOffset s.phase = some n ∧ 2 ≤ n := by
      revert hp hpast
      cases s.phase <;> simp [soiPhases, headPhases, blockPhases, tailPhases, headOffset]
    rwa [hs.offsets n hn]

/-! ## The operation of PHASE -/

/-- No operation completes in ERROR. -/
theorem completed_phase_ne_error {i : Instr} (hi : (transition s.phase).operation = some i) (h : Completed i s t) :
    t.phase ≠ .error := by
  intro he
  have hnext := completed_phase hi h
  rw [he] at hnext
  revert hi hnext
  cases s.phase <;> simp [transition]

/-- A header part between two offsets. -/
theorem StreamInv.header (hinv : Inv s) (hs : StreamInv s) {n : ℕ} (hn : headOffset s.phase = some n)
    (hsoi : s.phase ∈ soiPhases) (h : header bytes p s = .next t) (hp : t.phase = p)
    (hlen : headOffset p = some (n + bytes.length)) : StreamInv t := by
  have hne : t.phase ≠ .error := fun he => by rw [hp.symm.trans he] at hlen; cases hlen
  have happ := header_appended hinv.capacity h hne
  refine streamInv_of_offset ?_ fun _ => ((hs.soiHeld hsoi).appended happ).2
  rw [hp, hlen, happ.1, hs.offsets n hn]

theorem StreamInv.hdrSoi (hinv : Inv s) (hs : StreamInv s) (hp : s.phase = .hdrSoi) (h : exec .hdrSoi s = .next t)
    (hnext : t.phase = .hdrApp0) : StreamInv t := by
  obtain ⟨hlen, hin, -⟩ := header_appended hinv.capacity h (by simp [hnext])
  rw [hs.offsets 0 (by rw [hp]; rfl)] at hlen hin
  refine streamInv_of_offset (by rw [hnext, hlen]; rfl) fun _ => ⟨?_, ?_⟩
  · exact hin 0 (by decide)
  · exact hin 1 (by decide)

theorem StreamInv.hdrSos (hinv : Inv s) (hs : StreamInv s) (hp : s.phase = .hdrSos) (h : exec .hdrSos s = .next t)
    (hnext : t.phase = .blkFetch) : StreamInv t := by
  have happ := header_appended hinv.capacity h (by simp [hnext])
  have hlen : t.outlen = 328 := by rw [happ.1, hs.offsets 318 (by rw [hp]; rfl)]; rfl
  refine streamInv_of_segment (by rw [hnext]; decide) ((hs.soiHeld (by rw [hp]; decide)).appended happ) ⟨hlen.ge, ?_⟩
  intro a hlo hhi
  omega

/-- An operation of the block loop, or BW.FINALIZE, appends stuffed bytes or none. -/
theorem StreamInv.inSegment (hs : StreamInv s) (hp : s.phase ∈ blockPhases ++ tailPhases)
    (hnext : ∀ q ∈ (transition s.phase).next, q ∈ blockPhases ++ tailPhases)
    (hmove : t.phase ∈ (transition s.phase).next) (happ : ∃ bytes, Appended s t (stuffed bytes)) : StreamInv t := by
  obtain ⟨bytes, happ⟩ := happ
  have hsoi : s.phase ∈ soiPhases := by
    unfold soiPhases
    rw [List.append_assoc]
    exact List.mem_append_right _ hp
  exact streamInv_of_segment (hnext _ hmove) ((hs.soiHeld hsoi).appended happ) (SegmentHeld.appended (hs.segment hp) happ)

/-- HDR.EOI ends the stuffed segment (R289). -/
theorem StreamInv.hdrEoi (hinv : Inv s) (hs : StreamInv s) (hp : s.phase = .hdrEoi) (h : exec .hdrEoi s = .next t)
    (hnext : t.phase = .done) : StreamInv t := by
  have happ := hdrEoi_appended hinv.capacity h (by simp [hnext])
  have hsoi := (hs.soiHeld (by rw [hp]; decide)).appended happ
  obtain ⟨hlo, hstuffed⟩ := hs.segment (by rw [hp]; decide)
  obtain ⟨hlen, hin, hout⟩ := happ
  have hlen' : t.outlen = s.outlen + 2 := hlen
  have hend : 330 ≤ t.outlen ∧ Stuffed t 328 (t.outlen - 2) ∧
      outByte t (t.outlen - 2) = 0xFF#8 ∧ outByte t (t.outlen - 1) = 0xD9#8 := by
    rw [hlen']
    exact ⟨by omega, hstuffed.congr fun a ha => hout a (.inl ha), hin 0 (by decide), hin 1 (by decide)⟩
  constructor <;> rw [hnext]
  · exact fun _ h => nomatch h
  · exact fun _ => hsoi.2
  · exact fun h => absurd h (by decide)
  · exact fun _ => hend

theorem StreamInv.operation_completed {i : Instr} (hinv : Inv s) (hs : StreamInv s)
    (hi : (transition s.phase).operation = some i) (h : exec i s = .next t) (hc : Completed i s t) : StreamInv t := by
  have hnext := completed_phase hi hc
  have hne := completed_phase_ne_error hi hc
  have hsegment := hs.inSegment (t := t)
  cases hp : s.phase <;> rw [hp] at hi hnext hsegment <;> cases hi
  case check | qtb =>
    obtain ⟨-, rfl⟩ := hc
    refine streamInv_of_offset (congrArg some (hs.offsets 0 (by rw [hp]; rfl)).symm) fun h => absurd h ?_
    simp [soiPhases, headPhases, blockPhases, tailPhases]
  case hdrSoi => exact hs.hdrSoi hinv hp h (List.mem_singleton.mp hnext)
  case hdrApp0 | hdrDqt | hdrSof0 | hdrDhtDc | hdrDhtAc =>
    refine hs.header hinv (by rw [hp]; rfl) (by rw [hp]; decide) h (List.mem_singleton.mp hnext) ?_
    simp [headOffset, length_segment, be16, dhtPayload, tableBytes, length_acSyms, Rom.dcCounts, Rom.dcSyms, Rom.acCounts]
  case hdrSos => exact hs.hdrSos hinv hp h (List.mem_singleton.mp hnext)
  case blkFetch | quant =>
    obtain ⟨-, rfl⟩ := hc
    exact hsegment (by decide) (by decide) hnext ⟨[], appended_nil rfl rfl⟩
  case fdct | zigzag | bwFinal =>
    rw [show t = _ from hc] at hsegment hnext ⊢
    exact hsegment (by decide) (by decide) hnext ⟨[], appended_nil rfl rfl⟩
  case blkNext =>
    refine hsegment (by decide) (by decide) hnext ⟨[], ?_⟩
    rw [show t = _ from hc]
    split <;> exact appended_nil rfl rfl
  case entDc =>
    exact hsegment (by decide) (by decide) hnext (entDc_appended hinv.bits hinv.capacity h hne)
  case entAc =>
    exact hsegment (by decide) (by decide) hnext (entAc_appended hinv.bits hinv.capacity h hne)
  case entEob =>
    exact hsegment (by decide) (by decide) hnext (entEob_appended hinv.bits hinv.capacity h hne)
  case hdrEoi => exact hs.hdrEoi hinv hp h (List.mem_singleton.mp hnext)

theorem StreamInv.operation {i : Instr} (hinv : Inv s) (hs : StreamInv s) (hi : (transition s.phase).operation = some i)
    (h : exec i s = .next t) : StreamInv t := by
  rcases exec_completed i s t h with hc | ⟨e, -, rfl⟩
  · exact hs.operation_completed hinv hi h hc
  · exact streamInv_quiescent (.inr rfl)

/-! ## The host's moves -/

theorem StreamInv.hostMoved (hs : StreamInv s) (h : HostMoved s u) : StreamInv u := by
  rw [h.1]
  exact { hs with }

/-- ENCODE sets OUTLEN back to where the header starts (R310). -/
theorem StreamInv.encode (hs : StreamInv s) {d : BitVec 31} (h : exec (.encode d) s = .next t) : StreamInv t := by
  rcases exec_completed _ s t h with hc | ⟨e, -, rfl⟩
  · rw [show t = _ from hc]
    split
    · exact hs
    · exact streamInv_of_offset rfl fun h => absurd h (by decide : Phase.check ∉ soiPhases)
  · exact streamInv_quiescent (.inr rfl)

theorem StreamInv.regStore (hs : StreamInv s) (offset : BitVec 8) (data : BitVec 32) : StreamInv (regStore s offset data) := by
  unfold Machine.regStore
  split
  · exact hs
  · split
    · exact { hs with }
    · exact { hs with }
    · exact { hs with }
    · exact hs

theorem StreamInv.imgStore (hs : StreamInv s) (addr : ℕ) (byte : Byte) : StreamInv (imgStore s addr byte) := by
  rw [imgStore_eq]
  exact { hs with }

theorem StreamInv.blockMove (hinv : Inv s) (hs : StreamInv s) (h : BlockMove s t) : StreamInv t := by
  cases h with
  | stays => exact hs
  | operation _ hi h => exact hs.operation hinv hi h
  | encode d h => exact hs.encode h
  | regStore offset data => exact hs.regStore offset data
  | imgStore addr byte => exact hs.imgStore addr byte
  | reset => exact streamInv_quiescent (.inl rfl)

/-- Settles O45: a step is a move of the host's part and then one move of the block, and each keeps the stream's shape. -/
theorem everyStepKeepsTheStreamShape : Obligations.EveryStepKeepsTheStreamShape := by
  intro s t hinv hs h
  obtain ⟨u, hu, hb⟩ := step_cases hinv.fromHost h
  exact (hs.hostMoved hu).blockMove (hinv.hostMoved hu) hb

end Sys2Proof.Machine
end

section
/-! # The header writer (46_header_writer.md) and the completion of an encode -/

namespace Sys2Proof.Machine

open Sys2Proof.Spec

variable {s : State} {bytes : List Byte} {p : Phase} {n : ℕ}

/-! ## One header operation -/

/-- A header part is `emit` of its bytes, and then PHASE moves (R280). -/
theorem header_appendsOrOverflows (hs : WithinCap s) (bytes : List Byte) (p : Phase) :
    AppendsOrOverflows s (header bytes p s) bytes fun u => { u with phase := p } :=
  finish_emit_appendsOrOverflows (after := (State.goto · p)) hs bytes (fun _ => rfl) fun _ => rfl

/-- HDR.EOI is `emit` of the EOI marker, and then SEQ.DONE (R289, R314). -/
theorem exec_hdrEoi_appendsOrOverflows (hs : WithinCap s) :
    AppendsOrOverflows s (exec .hdrEoi s) [0xFF, 0xD9] State.seqDone :=
  finish_emit_appendsOrOverflows hs (markerBytes 0xD9) (fun _ => rfl) fun _ => rfl

/-- Settles O17: each operation is the header part that the table of parts gives it. -/
theorem headerOperationsAppendTheirBytes : Obligations.HeaderOperationsAppendTheirBytes := by
  intro s hs part hpart
  rw [exec_headerPart s part hpart]
  exact header_appendsOrOverflows hs part.2.1 part.2.2

/-! ## The whole header, and its end -/

/-- Bytes appended up to OUTLEN = n, and PHASE moved, are all that changes. -/
theorem State.appended_goto_eq (h : s.outlen + bytes.length = n) :
    (s.appended bytes).goto p = { s with out := ((s.appended bytes).goto p).out, outlen := n, phase := p } := by
  subst h
  rfl

/-- PHASE moved on, the bytes appended stay. -/
theorem appended_appended_goto (s : State) (bytes : List Byte) (p : Phase) :
    Appended s ((s.appended bytes).goto p) bytes := appended_of_out_eq rfl rfl

/-- Settles O18: the seven parts run as one append of the 328 bytes. -/
theorem headerIs328Bytes : Obligations.HeaderIs328Bytes := by
  intro s hin hbusy hp hlen hroom
  have hend : s.outlen + (header328 s).length = 328 := by rw [hlen, length_header328]
  exact ⟨(s.appended (header328 s)).goto .blkFetch, runs_header hp hin hbusy hroom, State.appended_goto_eq hend,
    length_header328 s, appended_appended_goto s _ _⟩

/-- Settles O19: HDR.EOI ends with SEQ.DONE, which by itself is the two writes. -/
theorem eoiCompletesTheEncode : Obligations.EoiCompletesTheEncode := fun _ hs =>
  ⟨exec_hdrEoi_appendsOrOverflows hs, rfl⟩

end Sys2Proof.Machine
end

section
/-! # The sequencer (47_sequencer.md): its turns, its own operations and the transition table -/

namespace Sys2Proof.Machine

open Sys2Proof.Spec

variable {s t : State} {r : Res} {e : Raise} {i : Instr} {rest : List Input}

/-! ## Turns -/

theorem step_turn (hin : s.inputs = []) : step s = sequencerTurn s := by
  rw [step, runNext, hin]

/-- While not BUSY the sequencer takes no step (R315). -/
theorem sequencerTurn_notBusy (h : s.busy = false) : sequencerTurn s = .next s := by
  rw [sequencerTurn, h]
  rfl

/-- A PHASE without an operation stays as it is (R312). -/
theorem sequencerTurn_quiescent (h : (transition s.phase).operation = none) : sequencerTurn s = .next s := by
  rw [← decode_phaseCode] at h
  unfold sequencerTurn
  cases hcode : decode (.uop (phaseCode s.phase)) with
  | ok i => rw [hcode] at h; cases h
  | error e => exact ite_self _

/-- Settles O6: none of the three phases has an operation. -/
theorem quiescentStepChangesNothing : Obligations.QuiescentStepChangesNothing := by
  intro s hin hp
  rw [step_turn hin]
  refine sequencerTurn_quiescent ?_
  rcases hp with hp | hp | hp <;> rw [hp] <;> rfl

/-! ## WAIT -/

theorem step_wait (hin : s.inputs = .wait :: rest) : step s = pollStatus rest s := by
  rw [step, runNext, hin]

/-- A poll while BUSY reads STATUS 001 and gives the sequencer its turn (log 25). -/
theorem pollStatus_busy (h : s.busy = true) : pollStatus rest s = sequencerTurn { s with rdata := 1 } := by
  have hread : regValue s 0x04 = 1 := by
    change (statusBits s.status).setWidth 32 = 1
    rw [of_decide_eq_true h]
    rfl
  rw [pollStatus, hread]
  exact if_pos h

theorem pollStatus_notBusy (h : s.busy = false) :
    pollStatus rest s = .next { s with inputs := rest, rdata := (statusBits s.status).setWidth 32 } :=
  if_neg (ne_true_of_eq_false h)

/-- A REG write that decodes to an operation runs it: it is ENCODE at offset 0, a well-formed access (R81, R111). -/
theorem step_command {offset : BitVec 8} {data : BitVec 32} (hin : s.inputs = .host (.regWrite offset .word data) :: rest)
    (h : decode (.host offset data) = .ok i) : step s = exec i (s.withInputs rest) := by
  have hcode := (encode_of_decode h).2
  obtain ⟨ignored, rfl⟩ := decode_host_ok h
  obtain ⟨rfl, -⟩ := Code.host.inj hcode
  rw [step_host hin, hostAccess, regForm_word rfl]
  simp only [h]

/-- Settles O4: what each entry of `inputs`, or none, makes of the step. -/
theorem stepRunsTheDecodedOperation : Obligations.StepRunsTheDecodedOperation := by
  intro s rest
  refine ⟨fun i hbusy hop => ⟨fun hin => ?_, fun hin => ?_, fun hin => ?_⟩, fun hidle => ⟨fun hin => ?_, fun hin => ?_⟩,
    fun i offset data hin => step_command hin, fun i hin => step_issue hin⟩
  · rw [step_turn hin, sequencerTurn_busy hbusy hop]
  · rw [step_seq hin]
    exact sequencerTurn_busy (s := s.withInputs rest) hbusy hop
  · rw [step_wait hin, pollStatus_busy hbusy]
    exact sequencerTurn_busy (s := { s with rdata := 1 }) hbusy hop
  · rw [step_seq hin]
    exact sequencerTurn_notBusy (s := s.withInputs rest) hidle
  · rw [step_wait hin, pollStatus_notBusy hidle]
    cases s.status <;> rfl

/-! ## ENCODE and SEQ.CHECK -/

/-- Settles O10: the two sides of the test of BUSY. -/
theorem encodeSetsThePerEncodeState : Obligations.EncodeSetsThePerEncodeState := fun ignored s =>
  ⟨fun hbusy => if_pos (decide_eq_true hbusy),
    fun hidle => ⟨s.encoding, exec_encode_notBusy (decide_eq_false hidle) ignored, rfl⟩⟩

theorem legalDimension_iff (d : BitVec 16) : legalDimension d = true ↔ d.toNat ≠ 0 ∧ d.toNat % 8 = 0 := by
  simp only [legalDimension, Bool.and_eq_true, decide_eq_true_eq]

theorem exec_seqCheck_illegal (h : ¬(legalDimension s.width = true ∧ legalDimension s.height = true)) :
    exec .seqCheck s = .next (s.takeError ⟨.invalidDimension, s.height ++ s.width⟩) := by
  change execSeqCheck s = _
  rw [execSeqCheck, if_neg (by rwa [Bool.and_eq_true]), finish_raise]

theorem append_eq_ofNat (h w : BitVec 16) : h ++ w = BitVec.ofNat 32 (h.toNat * 2 ^ 16 + w.toNat) := by
  apply BitVec.eq_of_toNat_eq
  rw [BitVec.toNat_append, ← Nat.shiftLeft_add_eq_or_of_lt w.isLt, Nat.shiftLeft_eq, BitVec.toNat_ofNat,
    Nat.mod_eq_of_lt (by omega)]

/-- Settles O11: a dimension is illegal when it is 0 or no multiple of 8. -/
theorem seqCheckTestsTheDimensions : Obligations.SeqCheckTestsTheDimensions := by
  intro s w h
  have hlegal : (legalDimension s.width = true ∧ legalDimension s.height = true) ↔
      ¬(w = 0 ∨ h = 0 ∨ w % 8 ≠ 0 ∨ h % 8 ≠ 0) := by
    rw [legalDimension_iff, legalDimension_iff]
    omega
  refine ⟨fun hbad => ?_, fun hgood => ?_⟩
  · rw [exec_seqCheck_illegal (fun hl => hlegal.mp hl hbad), append_eq_ofNat]
    rfl
  · obtain ⟨hw, hh⟩ := hlegal.mpr hgood
    exact exec_seqCheck_legal hw hh

/-! ## BLK.NEXT -/

theorem exec_blkNext (s : State) : ∃ x y, exec .blkNext s = .next (s.moveCursor x y) := by
  by_cases hlast : s.blkX + 8 = s.width
  · exact ⟨_, _, exec_blkNext_lastColumn hlast⟩
  · exact ⟨_, _, exec_blkNext_nextColumn hlast⟩

/-- The loop ends exactly when the cursor comes to HEIGHT (R183). -/
theorem moveCursor_phase_eq_bwFinal_iff (s : State) (x y : BitVec 16) :
    (s.moveCursor x y).phase = .bwFinal ↔ (s.moveCursor x y).blkY = s.height := by
  change (if y = s.height then Phase.bwFinal else .blkFetch) = .bwFinal ↔ y = s.height
  split <;> simp [*]

theorem moveCursor_phase_ne_error (s : State) (x y : BitVec 16) : (s.moveCursor x y).phase ≠ .error := by
  change (if y = s.height then Phase.bwFinal else .blkFetch) ≠ .error
  split <;> decide

/-! ## Exceptions -/

/-- The one exception of this part of an operation is OUTPUT_OVERFLOW (R344). -/
def Res.OnlyOverflows (r : Res) : Prop := ∀ e, r = .error (.raise e) → e.code = .outputOverflow

theorem onlyOverflows_ok (s : State) : Res.OnlyOverflows (.ok s) := nofun

theorem Emission.onlyOverflows (h : Emission s r) : r.OnlyOverflows := by
  rintro e rfl
  rcases h with ⟨info, he⟩ | ⟨symbol, he⟩
  · cases he; rfl
  · cases he

theorem Res.OnlyOverflows.bind {f : State → Res} (h : r.OnlyOverflows) (hf : ∀ u, (f u).OnlyOverflows) :
    Res.OnlyOverflows (r.bind f) :=
  match r, h with
  | .ok u, _ => hf u
  | .error (.raise e), h => fun _ he => by cases he; exact h e rfl
  | .error (.fault _), _ => nofun

theorem Res.OnlyOverflows.map (h : r.OnlyOverflows) (g : State → State) : Res.OnlyOverflows (r.map g) :=
  h.bind (f := fun u => .ok (g u)) fun u => onlyOverflows_ok (g u)

theorem writeZrls_onlyOverflows (fuel : ℕ) (s : State) : (writeZrls fuel s).OnlyOverflows := by
  induction fuel generalizing s with
  | zero => exact onlyOverflows_ok s
  | succ fuel ih =>
    unfold writeZrls
    split
    · exact (writeAc_emission 0xF0 0 s).onlyOverflows.bind fun u => ih (u.withNz (u.nz - 16))
    · exact onlyOverflows_ok s

theorem writeEntry_onlyOverflows (v : ℤ) (s : State) : (writeEntry v s).OnlyOverflows := by
  refine (writeZrls_onlyOverflows _ s).bind fun u => ?_
  dsimp only
  split
  · exact nofun
  · exact (writeAc_emission _ _ u).onlyOverflows.map _

theorem scanAc_onlyOverflows (entries : List ℤ) (s : State) : (scanAc entries s).OnlyOverflows := by
  induction entries generalizing s with
  | nil => exact onlyOverflows_ok s
  | cons v rest ih =>
    unfold scanAc
    split
    · exact ih _
    · exact (writeEntry_onlyOverflows v s).bind ih

/-- An operation that ends in the error entry, but would have gone on elsewhere, has overflowed. -/
theorem Res.OnlyOverflows.code_of_finish {after : State → State} (hr : r.OnlyOverflows)
    (h : finish s (r.map after) = .next (s.takeError e)) (hafter : ∀ u, (after u).phase ≠ .error) :
    e.code = .outputOverflow := by
  rcases finish_next h with hok | ⟨e', he', heq⟩
  · cases r with
    | ok u => exact absurd (congrArg State.phase (Except.ok.inj hok)) (hafter u)
    | error stop => cases hok
  · rw [show e.code = e'.code from congrArg State.errCode heq]
    exact hr.map after e' he'

/-- An exception of an operation is one the transition table gives it (R312). -/
theorem operation_raises (hi : (transition s.phase).operation = some i) (h : exec i s = .next (s.takeError e)) :
    e.code ∈ (transition s.phase).raises := by
  have hcompleted {u : State} (hu : exec i s = .next u) (hne : u.phase ≠ .error) : False := by
    cases hu.symm.trans h
    exact hne rfl
  have hraised {e' : Raise} (he : exec i s = .next (s.takeError e')) : e.code = e'.code :=
    congrArg State.errCode (Host.Outcome.next.inj (h.symm.trans he))
  cases hp : s.phase <;> rw [hp] at hi <;> cases hi
  case check =>
    by_cases hlegal : legalDimension s.width = true ∧ legalDimension s.height = true
    · exact (hcompleted (exec_seqCheck_legal hlegal.1 hlegal.2) (by simp)).elim
    · simp [transition, hraised (exec_seqCheck_illegal hlegal)]
  case qtb =>
    rcases lt_or_ge 0 s.quality.toInt with hq | hq
    · exact (hcompleted (exec_qtbBuild hq) (by simp)).elim
    · simp [transition, hraised (exec_qtbBuild_invalid hq)]
  case hdrSoi | hdrApp0 | hdrDqt | hdrSof0 | hdrDhtDc | hdrDhtAc | hdrSos =>
    exact List.mem_singleton.mpr ((emit_emission _ s).onlyOverflows.code_of_finish h (by simp))
  case blkFetch =>
    by_cases hinside : s.blkX < s.width ∧ s.blkY < s.height
    · exact (hcompleted (execBlkFetch_inside hinside) (by simp)).elim
    · cases h.symm.trans (execBlkFetch_outside hinside)
  case quant =>
    cases hzero : zeroEntry s.qt with
    | none => exact (hcompleted (exec_quant_of_noZero hzero) (by simp)).elim
    | some k => simp [transition, hraised (exec_quant_degenerate hzero)]
  case entDc =>
    exact List.mem_singleton.mpr ((writeDc_emission _ _ _).onlyOverflows.code_of_finish h (by simp))
  case entAc =>
    exact List.mem_singleton.mpr ((scanAc_onlyOverflows _ _).code_of_finish h (by simp))
  case entEob =>
    have hcoded : Res.OnlyOverflows (if s.len.val < 64 then writeAc 0x00 0 s else .ok s) := by
      split
      · exact (writeAc_emission 0x00 0 s).onlyOverflows
      · exact onlyOverflows_ok s
    exact List.mem_singleton.mpr (hcoded.code_of_finish h (by simp))
  case hdrEoi =>
    exact List.mem_singleton.mpr ((emit_emission _ s).onlyOverflows.code_of_finish h (by simp))
  case fdct => exact (hcompleted (exec_fdct s) (by simp)).elim
  case zigzag => exact (hcompleted (exec_zigzag s) (by simp)).elim
  case bwFinal => exact (hcompleted (rfl : exec .bwFinalize s = .next ((s.withBits 0 0).goto .hdrEoi)) (by simp)).elim
  case blkNext =>
    obtain ⟨x, y, hmove⟩ := exec_blkNext s
    exact (hcompleted hmove (moveCursor_phase_ne_error s x y)).elim

/-! ## The transition table -/

/-- The PHASEs that go with BUSY are those with an operation (R34, R312). -/
theorem statusOfPhase_busy_iff (p : Phase) : statusOfPhase p = .busy ↔ (transition p).operation.isSome = true := by
  cases p <;> simp [statusOfPhase, transition]

/-- Settles O7: a completed operation goes where the table lists, and an exception is one that the table gives. -/
theorem phaseMovesAlongTheTable : Obligations.PhaseMovesAlongTheTable := by
  refine ⟨fun s hin hst => ?_, fun s ignored hst hnone => ⟨s.encoding, exec_encode_notBusy ?_ ignored, rfl⟩⟩
  · have hbusy := statusOfPhase_busy_iff s.phase
    rw [← hst] at hbusy
    cases hop : (transition s.phase).operation with
    | none =>
      have hstep := (step_turn hin).trans (sequencerTurn_quiescent hop)
      refine ⟨hstep, fun t ht => ?_⟩
      cases hstep.symm.trans ht
      revert hop
      cases s.phase <;> simp [transition]
    | some i =>
      have hstep := step_busy hin (hbusy.mpr (by rw [hop]; rfl)) hop
      refine ⟨hstep, fun t ht => ⟨?_, fun hp => ?_⟩⟩ <;> rw [hstep] at ht
      · rcases exec_completed i s t ht with hc | ⟨e, -, rfl⟩
        · exact .inl (completed_phase hop hc)
        · exact .inr ⟨rfl, operation_raises hop ht⟩
      · rw [hp] at hop
        cases hop
        obtain ⟨x, y, hmove⟩ := exec_blkNext s
        cases hmove.symm.trans ht
        exact moveCursor_phase_eq_bwFinal_iff s x y
  · have hbusy := (statusOfPhase_busy_iff s.phase).not.mpr (by rw [hnone]; decide)
    exact decide_eq_false (hst ▸ hbusy)

end Sys2Proof.Machine
end

section
/-! # Every encode ends -/

namespace Sys2Proof.Machine

open Sys2Proof.Spec

variable {s t : State} {i : Instr} {p : Phase}

/-! ## One step -/

theorem finish_ne_refused (s : State) (r : Res) (why : Refusal) : finish s r ≠ .refused why :=
  match r with
  | .ok _ => nofun
  | .error (.raise _) => nofun
  | .error (.fault _) => nofun

/-- No operation of PHASE is refused. -/
theorem operation_ne_refused {why : Refusal} (hi : (transition s.phase).operation = some i) : exec i s ≠ .refused why := by
  cases hp : s.phase <;> rw [hp] at hi <;> cases hi
  case fdct | zigzag | blkNext | bwFinal => exact nofun
  all_goals exact finish_ne_refused s _ why

/-- With the invariants and no input waiting, a BUSY block runs the operation of PHASE to a next state (R184, R244). -/
theorem step_of_busy (hs : Inv s) (hv : ValueInv s) (hin : s.inputs = []) (hbusy : s.status = .busy) :
    ∃ i t, (transition s.phase).operation = some i ∧ exec i s = .next t ∧ step s = .next t := by
  have hsome := (statusOfPhase_busy_iff s.phase).mp (hs.coherent.symm.trans hbusy)
  obtain ⟨i, hi⟩ := Option.isSome_iff_exists.mp hsome
  have hstep := step_busy hin hbusy hi
  cases hexec : exec i s with
  | next t => exact ⟨i, t, hi, hexec, hstep.trans hexec⟩
  | fault f => exact absurd hexec (operation_ne_fault hs hv hi)
  | refused why => exact absurd hexec (operation_ne_refused hi)

/-! ## The way that is left -/

/-- What a completed operation lessens: the part of the image that the cursor has before it, and then the part of the loop, or
of the way to it and from it, that PHASE has before it. -/
def State.wayLeft (s : State) : ℕ :=
  8 * ((s.height.toNat - s.blkY.toNat) * 2 ^ 16 + (2 ^ 16 - s.blkX.toNat)) + (20 - (phaseCode s.phase).toNat)

theorem operation_ne_encode (hi : (transition p).operation = some i) (d : BitVec 31) : i ≠ .encode d := by
  cases p <;> cases hi <;> nofun

theorem operation_ne_blkNext (hi : (transition p).operation = some i) (hp : p ≠ .blkNext) : i ≠ .blkNext := by
  rintro rfl
  cases p <;> cases hi
  exact hp rfl

/-- Outside BLK.NEXT the codes of the PHASEs follow the order of the operations (R112, R312). -/
theorem phaseCode_next (hi : (transition p).operation = some i) (hp : p ≠ .blkNext) :
    ∀ q ∈ (transition p).next, (phaseCode q).toNat = (phaseCode p).toNat + 1 ∧ (phaseCode q).toNat ≤ 20 := by
  cases p <;> cases hi
  case blkNext => exact absurd rfl hp
  all_goals decide

/-- After an operation the block is BUSY or DONE (R312). -/
theorem statusOfPhase_next (hi : (transition p).operation = some i) :
    ∀ q ∈ (transition p).next, statusOfPhase q = .busy ∨ statusOfPhase q = .done := by
  cases p <;> cases hi <;> decide

/-- The loop is left or begun again: at most its eight operations and two more are left of the present block. -/
theorem wayLeft_moveCursor_le (s : State) (x y : BitVec 16) :
    (s.moveCursor x y).wayLeft ≤ 8 * ((s.height.toNat - y.toNat) * 2 ^ 16 + (2 ^ 16 - x.toNat)) + 10 := by
  have hphase : 10 ≤ (phaseCode (s.moveCursor x y).phase).toNat := by
    change 10 ≤ (phaseCode (if y = s.height then .bwFinal else .blkFetch)).toNat
    split <;> decide
  exact Nat.add_le_add_left (by omega) _

/-- BLK.NEXT takes the cursor on by a block, along the row or to the next row (R183). -/
theorem Inv.wayLeft_blkNext_lt (hs : Inv s) (hp : s.phase = .blkNext) (hc : Completed .blkNext s t) :
    t.wayLeft < s.wayLeft := by
  obtain ⟨hw, hh⟩ := hs.dimensions (by rw [hp]; decide)
  obtain ⟨hx, hy⟩ := hs.inside (by rw [hp]; decide)
  obtain ⟨hx8, hy8⟩ := hs.aligned
  have hhere : s.wayLeft = 8 * ((s.height.toNat - s.blkY.toNat) * 2 ^ 16 + (2 ^ 16 - s.blkX.toNat)) + 3 := by
    rw [State.wayLeft, hp]
    rfl
  rw [legalDimension_iff] at hw hh
  rw [show t = _ from hc, hhere]
  split
  · have hle := wayLeft_moveCursor_le s 0 (s.blkY + 8)
    have hrow : (s.blkY + 8).toNat = s.blkY.toNat + 8 := toNat_anchor_add (by bv_omega)
    rw [hrow] at hle
    bv_omega
  · have hle := wayLeft_moveCursor_le s (s.blkX + 8) s.blkY
    have hcol : (s.blkX + 8).toNat = s.blkX.toNat + 8 := toNat_anchor_add (by bv_omega)
    rw [hcol] at hle
    bv_omega

theorem Inv.wayLeft_lt (hs : Inv s) (hi : (transition s.phase).operation = some i) (hc : Completed i s t) :
    t.wayLeft < s.wayLeft := by
  by_cases hp : s.phase = .blkNext
  · rw [hp] at hi
    cases hi
    exact hs.wayLeft_blkNext_lt hp hc
  · have hnext := operation_ne_blkNext hi hp
    have hf := completed_frame hc
    obtain ⟨hx, hy⟩ := hf.cursor (operation_ne_encode hi) hnext
    obtain ⟨hcode, hle⟩ := phaseCode_next hi hp _ (completed_phase hi hc)
    rw [State.wayLeft, State.wayLeft, hx, hy, hf.height]
    omega

/-! ## The end -/

/-- Settles O49: every operation that completes lessens the way left, and one that does not ends in ERROR. -/
theorem everyEncodeEnds : Obligations.EveryEncodeEnds := by
  intro s hs hv hin hbusy
  induction hway : s.wayLeft using Nat.strong_induction_on generalizing s with
  | _ n ih =>
    obtain ⟨i, t, hi, hexec, hstep⟩ := step_of_busy hs hv hin hbusy
    rcases exec_completed i s t hexec with hc | ⟨e, -, rfl⟩
    · have hstatus := statusOfPhase_next hi _ (completed_phase hi hc)
      rw [← (hs.operation hi hexec).coherent] at hstatus
      rcases hstatus with hrest | hdone
      · obtain ⟨k, u, hruns, hend⟩ := ih _ (hway ▸ hs.wayLeft_lt hi hc) t (hs.operation hi hexec) (hv.operation hi hexec)
          ((exec_frame hexec).inputs.trans hin) hrest rfl
        exact ⟨k + 1, u, runs_succ.mpr ⟨t, hstep, hruns⟩, hend⟩
      · exact ⟨1, t, runs_one.mpr hstep, .inl hdone⟩
    · exact ⟨1, _, runs_one.mpr hstep, .inr rfl⟩

end Sys2Proof.Machine
end

section
/-! # Runs to DONE, and the bytes of a successful encode in closed form -/

namespace Sys2Proof.Machine

open Sys2Proof.Spec

variable {s t u : State} {j k n : ℕ}

/-! ## Runs without inputs -/

theorem inputs_of_step (hin : s.inputs = []) (h : step s = .next t) : t.inputs = [] := by
  rw [step_turn hin] at h
  rcases sequencerTurn_cases h with rfl | ⟨-, i, -, hexec⟩
  · exact hin
  · exact (exec_frame hexec).inputs.trans hin

theorem inputs_of_runs (hin : s.inputs = []) (h : Runs k s t) : t.inputs = [] := by
  induction k generalizing s with
  | zero => exact runs_zero.mp h ▸ hin
  | succ k ih =>
    obtain ⟨u, hstep, hrest⟩ := runs_succ.mp h
    exact ih (inputs_of_step hin hstep) hrest

/-- A run passes through a state at each number of its steps. -/
theorem exists_runs_of_le (h : Runs k s t) (hj : j ≤ k) : ∃ u, Runs j s u ∧ Runs (k - j) u t := by
  induction j generalizing s k with
  | zero => exact ⟨s, runs_zero.mpr rfl, h⟩
  | succ j ih =>
    obtain ⟨k, rfl⟩ := Nat.exists_eq_add_of_le' (Nat.one_le_of_lt hj)
    obtain ⟨v, hstep, hrest⟩ := runs_succ.mp h
    obtain ⟨u, hto, hfrom⟩ := ih hrest (Nat.le_of_succ_le_succ hj)
    exact ⟨u, runs_succ.mpr ⟨v, hstep, hto⟩, by rwa [Nat.succ_sub_succ]⟩

/-- A block that is not BUSY stays as it is (R315). -/
theorem eq_of_runs_notBusy (hin : s.inputs = []) (hidle : s.busy = false) (h : Runs k s t) : s = t := by
  induction k with
  | zero => exact runs_zero.mp h
  | succ k ih =>
    obtain ⟨u, hstep, hrest⟩ := runs_succ.mp h
    cases ((step_turn hin).trans (sequencerTurn_notBusy hidle)).symm.trans hstep
    exact ih hrest

/-- A run that ends BUSY was BUSY all along. -/
theorem busy_before (hin : s.inputs = []) (h : Runs k s t) (hbusy : t.status = .busy) (hj : j ≤ k) :
    ∃ u, Runs j s u ∧ u.status = .busy := by
  obtain ⟨u, hto, hfrom⟩ := exists_runs_of_le h hj
  refine ⟨u, hto, ?_⟩
  by_contra hidle
  cases eq_of_runs_notBusy (inputs_of_runs hin hto) (decide_eq_false hidle) hfrom
  exact hidle hbusy

/-! ## The bits of the blocks -/

/-- The predictor before block n: the DC entry of the block before it, 0 before the first (R317). -/
noncomputable def predBefore (s : State) : ℕ → ℤ
  | 0 => 0
  | n + 1 => (blockEntries s n)[0]

/-- The last block's bits come last. -/
theorem streamBits_succ (s : State) (m k : ℕ) : streamBits s (predBefore s m) m (k + 1) =
    streamBits s (predBefore s m) m k ++ blockBits (predBefore s (m + k)) (blockEntries s (m + k)) := by
  induction k generalizing m with
  | zero => simp [streamBits]
  | succ k ih =>
    have hrest := ih (m + 1)
    rw [Nat.add_right_comm m 1 k] at hrest
    calc streamBits s (predBefore s m) m (k + 1 + 1)
      _ = blockBits (predBefore s m) (blockEntries s m) ++ streamBits s (predBefore s (m + 1)) (m + 1) (k + 1) := rfl
      _ = _ := by rw [hrest, ← List.append_assoc]; rfl

/-- The bits of the first n blocks. -/
noncomputable def bitsBefore (s : State) (n : ℕ) : List Bool := streamBits s 0 0 n

@[simp] theorem bitsBefore_zero (s : State) : bitsBefore s 0 = [] := rfl

theorem bitsBefore_succ (s : State) (n : ℕ) :
    bitsBefore s (n + 1) = bitsBefore s n ++ blockBits (predBefore s n) (blockEntries s n) := by
  have h := streamBits_succ s 0 n
  rwa [Nat.zero_add] at h

theorem bitsBefore_prefix (h : n ≤ k) : bitsBefore s n <+: bitsBefore s k := by
  induction k, h using Nat.le_induction with
  | base => exact List.prefix_rfl
  | succ k _ ih =>
    rw [bitsBefore_succ]
    exact ih.trans (List.prefix_append ..)

/-! ## The bytes of a bit string -/

/-- What `xs` leaves over is packed with what follows. -/
theorem packBytes_append (xs ys : List Bool) :
    packBytes (xs ++ ys) = packBytes xs ++ packBytes (leftBits xs ++ ys) ∧
      leftBits (xs ++ ys) = leftBits (leftBits xs ++ ys) := by
  by_cases hshort : xs.length < 8
  · rw [packBytes_of_short hshort, leftBits_of_short hshort]
    exact ⟨rfl, rfl⟩
  · obtain ⟨v, hxs⟩ := exists_byte_append (not_lt.mp hshort)
    obtain ⟨hpack, hleft⟩ := packBytes_append (xs.drop 8) ys
    rw [hxs, List.append_assoc, packBytes_byte, packBytes_byte, leftBits_byte, leftBits_byte, hpack, hleft]
    exact ⟨rfl, rfl⟩
termination_by xs.length
decreasing_by
  rw [List.length_drop]
  omega

/-- The bytes of the entropy-coded segment that a bit string fills (R128, R262). -/
def ecsBytes (bits : List Bool) : List Byte := stuffed (packBytes bits)

theorem ecsBytes_append (xs ys : List Bool) : ecsBytes (xs ++ ys) = ecsBytes xs ++ ecsBytes (leftBits xs ++ ys) := by
  simp only [ecsBytes, stuffed, (packBytes_append xs ys).1, List.flatMap_append]

theorem ecsBytes_prefix {xs ys : List Bool} (h : xs <+: ys) : ecsBytes xs <+: ecsBytes ys := by
  obtain ⟨zs, rfl⟩ := h
  rw [ecsBytes_append]
  exact List.prefix_append ..

theorem outBytes_of_appended {bytes : List Byte} (h : Appended s t bytes) : outBytes t = outBytes s ++ bytes := by
  obtain ⟨hlen, hin, hout⟩ := h
  rw [outBytes, outBytes, hlen, List.range_add, List.map_append, List.map_map]
  congr 1
  · exact List.map_congr_left fun a ha => hout a (.inl (List.mem_range.mp ha))
  · exact List.ext_getElem (by simp) fun j _ hj => by simpa using hin j hj

/-! ## The entries of the blocks -/

/-- The entries that ZIGZAG finds for a block (R217). -/
theorem scanned_eq_blockEntries (hsamp : t.samp = blockSamples s n) (hcoef : t.coef = dctBlock t.samp)
    (hqt : t.qt = qtTable s.quality.toInt) : scanned (quotients t) = blockEntries s n := by
  refine Vector.ext fun k hk => ?_
  have hentry := scanned_quotients hcoef ⟨k, hk⟩
  rw [ExactReal.trunc_eq, value_divNat, value_dctCoef_eq_refDct, hsamp, hqt] at hentry
  rw [blockEntries, tabulate_getElem]
  exact hentry

theorem zeroEntry_qtTable_none (hq : 1 ≤ s.quality.toInt) (hq' : s.quality.toInt ≤ 97) :
    zeroEntry (qtTable s.quality.toInt) = none := by
  have hpos : 0 < s.quality.toInt := hq
  have hnat := toInt_eq_toNat hpos
  obtain ⟨-, h97, -⟩ := highQualityTablesHaveZeros { s with qt := qtTable s.quality.toInt } hpos rfl
  exact zeroEntry_none.mpr (h97 (by dsimp only; omega))

/-- The ranges of the entries of a block (R217). -/
theorem blockEntries_bounds (hqt : zeroEntry (qtTable s.quality.toInt) = none) (n : ℕ) :
    (-1024 ≤ (blockEntries s n)[0] ∧ (blockEntries s n)[0] ≤ 1016) ∧
      ∀ k : Fin 64, 1 ≤ k.val → (blockEntries s n)[k].natAbs ≤ 1020 := by
  let v : State := { s with qt := qtTable s.quality.toInt, samp := blockSamples s n, coef := dctBlock (blockSamples s n) }
  rw [← scanned_eq_blockEntries (t := v) rfl rfl rfl]
  exact scanned_bounds rfl hqt

theorem predBefore_bounds (hqt : zeroEntry (qtTable s.quality.toInt) = none) (n : ℕ) :
    -1024 ≤ predBefore s n ∧ predBefore s n ≤ 1016 :=
  match n with
  | 0 => zero_predRange
  | n + 1 => (blockEntries_bounds hqt n).1

/-- The DC value that ENT.DC codes is the first entry: LEN is 0 only when all are 0. -/
theorem dc_eq_first (hlen : t.len = countNonzero t.zz) : (if 0 < t.len.val then t.zz[0] else 0) = t.zz[0] := by
  split
  · rfl
  · rename_i hzero
    rw [hlen, countNonzero_eq_card, Finset.card_pos, Finset.not_nonempty_iff_eq_empty, Finset.filter_eq_empty_iff] at hzero
    exact (not_not.mp (hzero (Finset.mem_univ (0 : Fin 64)))).symm

end Sys2Proof.Machine
end

section
/-! # The encode from ENCODE to its end, block by block -/

namespace Sys2Proof.Machine

open Sys2Proof.Spec

variable {s t u : State} {j k n : ℕ} {pred : ℤ} {bits b : List Bool} {bytes ys : List Byte} {i : Instr} {f : State → Res}
  {after : State → State} {P Q : State → Prop}

/-! ## To go on or to overflow -/

/-- `t` is a state of the encode of `s`, BUSY and with `bytes` in OUT. -/
structure Emitting (s : State) (bytes : List Byte) (t : State) : Prop where
  inputs : t.inputs = []
  busy : t.status = .busy
  outCap : t.outCap = s.outCap
  within : WithinCap t
  emitted : outBytes t = bytes

/-- From `t`, a state of the encode of `s`, k operations lead to `P`; or the capacity does not hold the result, and the run ends
in OUTPUT_OVERFLOW (R344). -/
def Advances (s : State) (k : ℕ) (t : State) (P : State → Prop) : Prop :=
  (∃ u, Runs k t u ∧ P u) ∨
    ¬Fits s ∧ ∃ j u, Runs j t u ∧ u.status = .error ∧ u.errCode = .outputOverflow ∧
      u.errInfo = BitVec.ofNat 32 (s.outCap.getD 0)

theorem advances_of_runs (h : Runs k t u) (hP : P u) : Advances s k t P := .inl ⟨u, h, hP⟩

theorem Advances.bind (h : Advances s j t P) (h' : ∀ u, P u → Advances s k u Q) : Advances s (j + k) t Q := by
  rcases h with ⟨u, hruns, hP⟩ | hover
  · rcases h' u hP with ⟨v, hruns', hQ⟩ | ⟨hnot, m, v, hruns', hv⟩
    · exact .inl ⟨v, runs_append hruns hruns', hQ⟩
    · exact .inr ⟨hnot, j + m, v, runs_append hruns hruns', hv⟩
  · exact .inr hover

theorem Advances.mono (h : Advances s k t P) (hPQ : ∀ u, P u → Q u) : Advances s k t Q :=
  h.imp_left fun ⟨u, hruns, hP⟩ => ⟨u, hruns, hPQ u hP⟩

theorem outlen_eq_length_outBytes (t : State) : t.outlen = (outBytes t).length := by simp [outBytes]

theorem Emitting.outlen_eq (h : Emitting s bytes t) : t.outlen = bytes.length := by
  rw [outlen_eq_length_outBytes, h.emitted]

theorem outBytes_appended (t : State) (ys : List Byte) : outBytes (t.appended ys) = outBytes t ++ ys :=
  outBytes_of_appended (appended_of_out_eq rfl rfl)

/-- Where there is no room for bytes of the result, the capacity does not hold the result. -/
theorem Emitting.not_fits (h : Emitting s bytes t) (hroom : ¬Room t ys.length)
    (hpart : (bytes ++ ys).length ≤ (encodeBytes s).length) : ¬Fits s := fun hfits => hroom fun cap hcap => by
  have hle := hfits cap (h.outCap.symm.trans hcap)
  rw [List.length_append] at hpart
  rw [h.outlen_eq]
  omega

/-- An operation that goes on with room for its bytes, and overflows without. -/
theorem Emitting.advances (h : Emitting s bytes t) (hop : (transition t.phase).operation = some i)
    (hpart : (bytes ++ ys).length ≤ (encodeBytes s).length)
    (hroom : Room t ys.length → ∃ u, exec i t = .next u ∧ P u)
    (hfull : ¬Room t ys.length → exec i t = .next (overflowed t)) : Advances s 1 t P := by
  by_cases hr : Room t ys.length
  · obtain ⟨u, hexec, hP⟩ := hroom hr
    exact advances_of_runs (runs_busy h.inputs h.busy hop hexec) hP
  · refine .inr ⟨h.not_fits hr hpart, 1, _, runs_busy h.inputs h.busy hop (hfull hr), rfl, rfl, ?_⟩
    rw [← h.outCap]
    rfl

/-! ## The header -/

/-- The header of the encode of `s` (R290). -/
def headerBytes (s : State) : List Byte := header328 { s with qt := qtTable s.quality.toInt }

theorem encodeBytes_eq (s : State) :
    encodeBytes s = headerBytes s ++ ecsBytes (bitsBefore s (blockCount s)) ++ [0xFF#8, 0xD9#8] := rfl

/-- Without room for all the header's bytes one of its parts overflows. -/
theorem headerParts_overflow {q : Phase} (parts : List (Instr × List Byte × Phase)) (hparts : parts ⊆ headerParts t)
    (hchain : HeaderChain t.phase parts q) (hin : t.inputs = []) (hbusy : t.status = .busy) (hcap : WithinCap t)
    (hfull : ¬Room t (parts.flatMap fun part => part.2.1).length) :
    ∃ k u, Runs k t u ∧ u.status = .error ∧ u.errCode = .outputOverflow ∧
      u.errInfo = BitVec.ofNat 32 (t.outCap.getD 0) := by
  induction parts generalizing t with
  | nil => exact absurd hcap hfull
  | cons part parts ih =>
    obtain ⟨i, bytes, p⟩ := part
    obtain ⟨hop, hchain⟩ := hchain
    obtain ⟨hpart, hparts⟩ := List.cons_subset.mp hparts
    have hexec := exec_headerPart t _ hpart
    by_cases hroom : Room t bytes.length
    · rw [header, emit_of_room hroom, Res.goto_ok, finish_ok] at hexec
      have hrest : ¬Room ((t.appended bytes).goto p) (parts.flatMap fun part => part.2.1).length := by
        rw [List.flatMap_cons, List.length_append] at hfull
        exact fun hr => hfull fun cap hc => (Nat.add_assoc _ _ _).symm.trans_le (hr cap hc)
      obtain ⟨k, u, hruns, hu⟩ := ih (t := (t.appended bytes).goto p) hparts hchain hin hbusy hroom hrest
      exact ⟨1 + k, u, runs_append (runs_busy hin hbusy hop hexec) hruns, hu⟩
    · have hover := (header_appendsOrOverflows hcap bytes p).2 hroom
      exact ⟨1, _, runs_busy hin hbusy hop (hexec.trans hover), rfl, rfl, rfl⟩

/-- `s` in its encode with its table. -/
def State.tabled (s : State) : State := { s.encoding with qt := qtTable s.quality.toInt }

/-- The header leads to the first block. -/
theorem advances_atFirstBlock (hin : s.inputs = []) (hw : legalDimension s.width = true)
    (hh : legalDimension s.height = true) (hq : 0 < s.quality.toInt) :
    Advances s 9 s.encoding fun u => u = s.atFirstBlock ∧ WithinCap u := by
  by_cases hcap : ∀ cap, s.outCap = some cap → 328 ≤ cap
  · refine advances_of_runs (runs_atFirstBlock hin hw hh hq hcap) ⟨rfl, fun cap hc => ?_⟩
    exact (congrArg (0 + ·) (length_header328 _)).trans_le ((Nat.zero_add 328).trans_le (hcap cap hc))
  · have hcheck : Runs 1 s.encoding (s.encoding.goto .qtb) := runs_busy hin rfl rfl (exec_seqCheck_legal hw hh)
    have htable : Runs 1 (s.encoding.goto .qtb) (s.tabled.goto .hdrSoi) := runs_busy hin rfl rfl (exec_qtbBuild hq)
    have hfull : ¬Room (s.tabled.goto .hdrSoi) (header328 (s.tabled.goto .hdrSoi)).length := by
      rw [length_header328]
      exact fun hroom => hcap fun cap hc => (Nat.zero_add 328).symm.trans_le (hroom cap hc)
    obtain ⟨k, u, hruns, hu⟩ := headerParts_overflow (headerParts (s.tabled.goto .hdrSoi)) (List.Subset.refl _)
      (headerChain_headerParts _) hin rfl (fun _ _ => Nat.zero_le _) hfull
    refine .inr ⟨fun hfits => hcap fun cap hc => ?_, 1 + (1 + k), u, runs_append hcheck (runs_append htable hruns), hu⟩
    have hle := hfits cap hc
    rw [encodeBytes_eq, List.append_assoc, List.length_append, headerBytes, length_header328] at hle
    omega

/-! ## In a block -/

/-- `t` is a state of the encode of `s` with the cursor at block n, PRED at `pred` and `bits` sent. -/
structure InBlock (s : State) (n : ℕ) (pred : ℤ) (bits : List Bool) (t : State) : Prop
    extends Emitting s (headerBytes s ++ ecsBytes bits) t where
  width : t.width = s.width
  height : t.height = s.height
  column : t.blkX.toNat = 8 * (n % (s.width.toNat / 8))
  row : t.blkY.toNat = 8 * (n / (s.width.toNat / 8))
  img : t.img = s.img
  torn : t.torn = []
  table : t.qt = qtTable s.quality.toInt
  pred : t.pred = pred
  held : BitsHeld t
  pending : pendingBits t = leftBits bits

theorem InBlock.goto (h : InBlock s n pred bits t) (p : Phase) : InBlock s n pred bits (t.goto p) :=
  { h with }

theorem streamOnly_sent (t : State) (b : List Bool) : StreamOnly t (t.sent b) := rfl

/-- A change of the stream alone leaves what is said beside the stream. -/
theorem InBlock.streamOnly {bits' : List Bool} (h : InBlock s n pred bits t) (hframe : StreamOnly t u)
    (hwithin : WithinCap u) (hemitted : outBytes u = headerBytes s ++ ecsBytes bits') (hheld : BitsHeld u)
    (hpending : pendingBits u = leftBits bits') : InBlock s n pred bits' u where
  inputs := by rw [hframe]; exact h.inputs
  busy := by rw [hframe]; exact h.busy
  outCap := by rw [hframe]; exact h.outCap
  within := hwithin
  emitted := hemitted
  width := by rw [hframe]; exact h.width
  height := by rw [hframe]; exact h.height
  column := by rw [hframe]; exact h.column
  row := by rw [hframe]; exact h.row
  img := by rw [hframe]; exact h.img
  torn := by rw [hframe]; exact h.torn
  table := by rw [hframe]; exact h.table
  pred := by rw [hframe]; exact h.pred
  held := hheld
  pending := hpending

/-- Bits sent with room for their bytes. -/
theorem InBlock.sent (h : InBlock s n pred bits t) (hroom : Room t (bytesOut t b).length) :
    InBlock s n pred (bits ++ b) (t.sent b) := by
  refine h.streamOnly (streamOnly_sent t b) hroom ?_ (bitsHeld_sent t b) ?_
  · have hbytes : bytesOut t b = ecsBytes (leftBits bits ++ b) := by rw [bytesOut, h.pending, ecsBytes]
    rw [ecsBytes_append, ← List.append_assoc, ← h.emitted, ← hbytes]
    exact outBytes_appended t _
  · rw [pendingBits_sent, h.pending, (packBytes_append bits b).2]

/-- An operation that sends bits of the stream and makes a change beside it. -/
theorem InBlock.sends (h : InBlock s n pred bits t) (hop : (transition t.phase).operation = some i)
    (hexec : exec i t = finish t (f t)) (hf : Sends b (fun u => .ok (after u)) f)
    (hpart : bits ++ b <+: bitsBefore s (blockCount s)) :
    Advances s 1 t fun u => u = after (t.sent b) ∧ InBlock s n pred (bits ++ b) (t.sent b) := by
  refine h.advances hop (ys := bytesOut t b) ?_ (fun hroom => ?_) fun hfull => ?_
  · have hle := (ecsBytes_prefix hpart).length_le
    rw [encodeBytes_eq, List.append_assoc, bytesOut, h.pending]
    rw [ecsBytes_append, List.length_append] at hle
    simp only [List.length_append, ecsBytes] at hle ⊢
    omega
  · exact ⟨_, hexec.trans (hf.finish_of_room h.held hroom), rfl, h.sent hroom⟩
  · rw [hexec, hf t h.held, sendBits_of_not_room h.within hfull]
    rfl

/-! ## From BLK.FETCH to ZIGZAG -/

/-- The samples of the block that the cursor stands at (R182). -/
theorem InBlock.fetchBlock_eq (h : InBlock s n pred bits t) : fetchBlock t = blockSamples s n := by
  have hbyte (addr : ℕ) : imgByte t addr = s.img.read Config.imgPowerOn addr := by
    rw [imgByte_of_not_torn (by rw [tornAt, h.torn]; rfl), h.img]
  simp only [fetchBlock, blockSamples, imgRead, imgAddr, hbyte, h.width, h.column, h.row]

theorem InBlock.inside (h : InBlock s n pred bits t) (hw : legalDimension s.width = true)
    (hh : legalDimension s.height = true) (hn : n < blockCount s) : t.blkX < t.width ∧ t.blkY < t.height := by
  have hcol : n % (s.width.toNat / 8) < s.width.toNat / 8 := Nat.mod_lt _ (columns_pos hw)
  have hrow : n / (s.width.toNat / 8) < s.height.toNat / 8 := Nat.div_lt_of_lt_mul hn
  have hcols := eight_mul_blocks hw
  have hrows := eight_mul_blocks hh
  rw [BitVec.lt_def, BitVec.lt_def, h.width, h.height, h.column, h.row]
  omega

theorem InBlock.fetch (h : InBlock s n pred bits t) (hp : t.phase = .blkFetch)
    (hinside : t.blkX < t.width ∧ t.blkY < t.height) :
    ∃ u, Runs 1 t u ∧ InBlock s n pred bits u ∧ u.phase = .fdct ∧ u.samp = blockSamples s n :=
  ⟨_, runs_busy (i := .blkFetch) h.inputs h.busy (by rw [hp]; rfl) (execBlkFetch_inside hinside),
    { h with }, rfl, h.fetchBlock_eq⟩

theorem InBlock.fdct (h : InBlock s n pred bits t) (hp : t.phase = .fdct) :
    ∃ u, Runs 1 t u ∧ InBlock s n pred bits u ∧ u.phase = .quant ∧ u.samp = t.samp ∧ u.coef = dctBlock u.samp :=
  ⟨_, runs_busy h.inputs h.busy (by rw [hp]; rfl) (exec_fdct t), { h with },
    rfl, rfl, rfl⟩

theorem InBlock.quant (h : InBlock s n pred bits t) (hp : t.phase = .quant)
    (hzero : zeroEntry (qtTable s.quality.toInt) = none) :
    ∃ u, Runs 1 t u ∧ InBlock s n pred bits u ∧ u.phase = .zigzag ∧ u.quo = quotients t :=
  ⟨_, runs_busy h.inputs h.busy (by rw [hp]; rfl) (exec_quant_of_noZero (h.table ▸ hzero)),
    { h with }, rfl, rfl⟩

theorem InBlock.zigzag (h : InBlock s n pred bits t) (hp : t.phase = .zigzag) :
    ∃ u, Runs 1 t u ∧ InBlock s n pred bits u ∧ u.phase = .entDc ∧ u.zz = scanned t.quo ∧ u.len = countNonzero u.zz :=
  ⟨_, runs_busy h.inputs h.busy (by rw [hp]; rfl) (exec_zigzag t), { h with },
    rfl, rfl, rfl⟩

/-- The four operations before the entropy coder leave the block's entries (R217). -/
theorem InBlock.scan (h : InBlock s n pred bits t) (hok : CanSucceed s) (hp : t.phase = .blkFetch)
    (hn : n < blockCount s) : ∃ u, Runs 4 t u ∧ InBlock s n pred bits u ∧ u.phase = .entDc ∧ u.zz = blockEntries s n ∧
      u.len = countNonzero u.zz := by
  obtain ⟨hw, hh, hq, hq'⟩ := hok
  obtain ⟨t1, hfetch, h1, hp1, hsamp⟩ := h.fetch hp (h.inside hw hh hn)
  obtain ⟨t2, hfdct, h2, hp2, hsamp', hcoef⟩ := h1.fdct hp1
  obtain ⟨t3, hquant, h3, hp3, hquo⟩ := h2.quant hp2 (zeroEntry_qtTable_none hq hq')
  obtain ⟨u, hzigzag, hu, hpu, hzz, hlen⟩ := h3.zigzag hp3
  have hentries := scanned_eq_blockEntries (hsamp'.trans hsamp) hcoef h2.table
  exact ⟨u, runs_append hfetch (runs_append hfdct (runs_append hquant hzigzag)), hu, hpu,
    hzz.trans ((congrArg scanned hquo).trans hentries), hlen⟩

/-! ## The entropy coder -/

theorem InBlock.withPred (h : InBlock s n pred bits t) (dc : ℤ) : InBlock s n dc bits (t.withPred dc) :=
  { h with pred := rfl }

theorem InBlock.withNz (h : InBlock s n pred bits t) (nz : ℕ) : InBlock s n pred bits (t.withNz nz) :=
  { h with }

/-- ENT.DC sends the first entry's difference and makes it the predictor (R232). -/
theorem InBlock.entDc (h : InBlock s n pred bits t) (hp : t.phase = .entDc) (hlen : t.len = countNonzero t.zz)
    (hpred : -1024 ≤ pred ∧ pred ≤ 1016) (hdc : -1024 ≤ t.zz[0] ∧ t.zz[0] ≤ 1016)
    (hpart : bits ++ dcBits (t.zz[0] - pred) <+: bitsBefore s (blockCount s)) :
    Advances s 1 t fun u => InBlock s n t.zz[0] (bits ++ dcBits (t.zz[0] - pred)) u ∧ u.phase = .entAc ∧ u.zz = t.zz ∧
      u.len = t.len := by
  have hdelta : (t.zz[0] - pred).natAbs < 2048 := by omega
  have hexec : exec .entDc t = finish t (Res.goto (writeDc (category (t.zz[0] - pred))
      (magValue (t.zz[0] - pred) (category (t.zz[0] - pred))) (t.withPred t.zz[0])) .entAc) := by
    change execEntDc t = _
    rw [execEntDc, dc_eq_first hlen, h.pred]
  refine (h.sends (by rw [hp]; rfl) hexec (entDc_sends hdelta t.zz[0]) hpart).mono ?_
  rintro _ ⟨rfl, hu⟩
  exact ⟨(hu.withPred _).goto _, State.goto_phase _ _, by simp, by simp⟩

/-- ENT.AC sends the other entries (R236). -/
theorem InBlock.entAc (h : InBlock s n pred bits t) (hp : t.phase = .entAc)
    (hac : ∀ k : Fin 64, 1 ≤ k.val → t.zz[k].natAbs ≤ 1020)
    (hpart : bits ++ acBits 0 (examined t.zz t.len.val) <+: bitsBefore s (blockCount s)) :
    Advances s 1 t fun u => InBlock s n pred (bits ++ acBits 0 (examined t.zz t.len.val)) u ∧ u.phase = .entEob ∧
      u.len = t.len := by
  have hall : ∀ v ∈ examined t.zz t.len.val, v.natAbs < 1024 := fun v hv => by
    obtain ⟨k, hk, rfl⟩ := exists_of_mem_scannedEntries (s := t) hv
    exact (hac k hk).trans_lt (by decide)
  refine (h.sends (i := .entAc) (by rw [hp]; rfl) rfl (entAc_sends hall) hpart).mono ?_
  rintro _ ⟨rfl, hu⟩
  exact ⟨(hu.withNz _).goto _, State.goto_phase _ _, by simp⟩

/-- ENT.EOB ends the block's bits (R240). -/
theorem InBlock.entEob (h : InBlock s n pred bits t) (hp : t.phase = .entEob)
    (hpart : bits ++ eobBits t.len.val <+: bitsBefore s (blockCount s)) :
    Advances s 1 t fun u => InBlock s n pred (bits ++ eobBits t.len.val) u ∧ u.phase = .blkNext := by
  refine (h.sends (i := .entEob) (by rw [hp]; rfl) rfl (entEob_sends t.len.val) hpart).mono ?_
  rintro _ ⟨rfl, hu⟩
  exact ⟨hu.goto _, rfl⟩

/-- The three operations of the entropy coder send the block's bits, and PRED takes its first entry (R242). -/
theorem InBlock.entropyCode (h : InBlock s n pred bits t) (hp : t.phase = .entDc) (hlen : t.len = countNonzero t.zz)
    (hpred : -1024 ≤ pred ∧ pred ≤ 1016) (hdc : -1024 ≤ t.zz[0] ∧ t.zz[0] ≤ 1016)
    (hac : ∀ k : Fin 64, 1 ≤ k.val → t.zz[k].natAbs ≤ 1020)
    (hpart : bits ++ blockBits pred t.zz <+: bitsBefore s (blockCount s)) :
    Advances s 3 t fun u => InBlock s n t.zz[0] (bits ++ blockBits pred t.zz) u ∧ u.phase = .blkNext := by
  have hsplit : bits ++ blockBits pred t.zz = bits ++ dcBits (t.zz[0] - pred) ++
      acBits 0 (examined t.zz t.len.val) ++ eobBits t.len.val := by
    rw [blockBits, hlen]
    simp only [List.append_assoc]
  rw [hsplit] at hpart ⊢
  have hpart2 := (List.prefix_append _ _).trans hpart
  have hpart1 := (List.prefix_append _ _).trans hpart2
  refine (h.entDc hp hlen hpred hdc hpart1).bind (k := 2) fun t1 ⟨h1, hp1, hzz1, hlen1⟩ => ?_
  have hac1 : bits ++ dcBits (t.zz[0] - pred) ++ acBits 0 (examined t1.zz t1.len.val) <+: bitsBefore s (blockCount s) := by
    rwa [hzz1, hlen1]
  refine (h1.entAc hp1 (hzz1.symm ▸ hac) hac1).bind (k := 1) fun t2 ⟨h2, hp2, hlen2⟩ => ?_
  rw [hzz1, hlen1] at h2
  rw [← hlen1, ← hlen2] at hpart
  have heob := h2.entEob hp2 (by rwa [hlen2, hlen1] at hpart ⊢)
  rwa [hlen2, hlen1] at heob

/-! ## The loop -/

/-- BLK.NEXT takes the cursor to the next block, or out of the loop after the last one (R183). -/
theorem InBlock.blkNext (h : InBlock s n pred bits t) (hp : t.phase = .blkNext) (hw : legalDimension s.width = true)
    (hh : legalDimension s.height = true) (hn : n < blockCount s) : ∃ u, Runs 1 t u ∧ InBlock s (n + 1) pred bits u ∧
      u.phase = if n + 1 = blockCount s then .bwFinal else .blkFetch := by
  have hat : AtBlock s n (t.goto (if t.blkY = t.height then .bwFinal else .blkFetch)) :=
    ⟨h.width, h.height, h.column, h.row, rfl⟩
  obtain ⟨u, hexec, hu⟩ := hat.next hw hh hn
  obtain ⟨x, y, hmove⟩ := exec_blkNext t
  cases hmove.symm.trans hexec
  refine ⟨_, runs_busy h.inputs h.busy (by rw [hp]; rfl) hmove,
    { h with
      toEmitting := { h.toEmitting with }, width := hu.width, height := hu.height, column := hu.column, row := hu.row }, ?_⟩
  rw [hu.phase, hu.height]
  exact if_congr (hu.blkY_eq_height_iff hw hh hn) rfl rfl

/-- `t` is a state of the encode of `s` after n blocks, before BLK.FETCH or past the loop. -/
def AfterBlocks (s : State) (n : ℕ) (t : State) : Prop :=
  InBlock s n (predBefore s n) (bitsBefore s n) t ∧ t.phase = if n = blockCount s then .bwFinal else .blkFetch

/-- The eight operations of one block (R312, R313). -/
theorem AfterBlocks.block (h : AfterBlocks s n t) (hok : CanSucceed s) (hn : n < blockCount s) :
    Advances s 8 t (AfterBlocks s (n + 1)) := by
  obtain ⟨hblock, hp⟩ := h
  rw [if_neg hn.ne] at hp
  have hzero := zeroEntry_qtTable_none hok.2.2.1 hok.2.2.2
  obtain ⟨hdc, hac⟩ := blockEntries_bounds hzero n
  obtain ⟨u, hscan, hu, hpu, hzz, hlen⟩ := hblock.scan hok hp hn
  have hpart : bitsBefore s n ++ blockBits (predBefore s n) u.zz <+: bitsBefore s (blockCount s) := by
    rw [hzz, ← bitsBefore_succ]
    exact bitsBefore_prefix hn
  have hcode := hu.entropyCode hpu hlen (predBefore_bounds hzero n) (hzz.symm ▸ hdc) (hzz.symm ▸ hac) hpart
  rw [hzz, ← bitsBefore_succ] at hcode
  refine (advances_of_runs hscan rfl).bind (k := 4) ?_
  rintro _ rfl
  refine hcode.bind (k := 1) fun v ⟨hv, hpv⟩ => ?_
  obtain ⟨w, hnext, hw⟩ := hv.blkNext hpv hok.1 hok.2.1 hn
  exact advances_of_runs hnext hw

theorem blockCount_pos (hw : legalDimension s.width = true) (hh : legalDimension s.height = true) : 0 < blockCount s :=
  Nat.mul_pos (columns_pos hw) (columns_pos (s := { s with width := s.height }) hh)

theorem header328_congr (hqt : t.qt = u.qt) (hw : t.width = u.width) (hh : t.height = u.height) :
    header328 t = header328 u := by
  simp only [header328, headerParts, hqt, hw, hh]

theorem atFirstBlock_eq (s : State) : s.atFirstBlock = (s.tabled.appended (headerBytes s)).goto .blkFetch := by
  rw [show headerBytes s = header328 s.tabled from header328_congr rfl rfl rfl]
  rfl

/-- Before the first block the header is in OUT and no bits are sent. -/
theorem afterBlocks_zero (hin : s.inputs = []) (hw : legalDimension s.width = true)
    (hh : legalDimension s.height = true) (hcap : WithinCap s.atFirstBlock) : AfterBlocks s 0 s.atFirstBlock := by
  rw [atFirstBlock_eq] at hcap ⊢
  have hemitted : outBytes (s.tabled.appended (headerBytes s)) = headerBytes s := outBytes_appended s.tabled _
  generalize hbytes : headerBytes s = bytes at hcap hemitted ⊢
  exact
  ⟨{ inputs := hin
     busy := rfl
     outCap := rfl
     within := hcap
     emitted := by
       rw [hbytes, bitsBefore_zero]
       exact hemitted.trans (List.append_nil _).symm
     width := rfl
     height := rfl
     column := by rw [Nat.zero_mod]; rfl
     row := by rw [Nat.zero_div]; rfl
     img := rfl
     torn := rfl
     table := rfl
     pred := rfl
     held := ⟨Nat.zero_le _, Nat.one_pos⟩
     pending := by rw [bitsBefore_zero]; rfl }, (if_neg (blockCount_pos hw hh).ne).symm⟩

/-- Nine operations, and eight more for each block. -/
theorem advances_afterBlocks (hs : Ready s) (hok : CanSucceed s) (hn : n ≤ blockCount s) :
    Advances s (9 + 8 * n) s.encoding (AfterBlocks s n) := by
  induction n with
  | zero =>
    refine (advances_atFirstBlock hs.1 hok.1 hok.2.1 hok.2.2.1).mono ?_
    rintro _ ⟨rfl, hcap⟩
    exact afterBlocks_zero hs.1 hok.1 hok.2.1 hcap
  | succ n ih => exact (ih (by omega)).bind (k := 8) fun t ht => ht.block hok hn

/-! ## The end -/

/-- `t` is a state of the encode of `s` with HDR.EOI alone left. -/
def BeforeEoi (s t : State) : Prop :=
  Emitting s (headerBytes s ++ ecsBytes (bitsBefore s (blockCount s))) t ∧ t.phase = .hdrEoi

theorem advances_beforeEoi (hs : Ready s) (hok : CanSucceed s) :
    Advances s (10 + 8 * blockCount s) s.encoding (BeforeEoi s) := by
  rw [show 10 + 8 * blockCount s = 9 + 8 * blockCount s + 1 by omega]
  refine (advances_afterBlocks hs hok le_rfl).bind fun t ⟨ht, hp⟩ => ?_
  rw [if_pos rfl] at hp
  have hfinal : Runs 1 t ((t.withBits 0 0).goto .hdrEoi) := runs_busy (i := .bwFinalize) ht.inputs ht.busy (by rw [hp]; rfl) rfl
  exact advances_of_runs hfinal ⟨{ ht.toEmitting with }, rfl⟩

/-- The last operation completes the bytes of the result, if the capacity holds them (R289). -/
theorem BeforeEoi.advances (h : BeforeEoi s t) :
    Advances s 1 t fun u => u.status = .done ∧ outBytes u = encodeBytes s ∧ Fits s := by
  obtain ⟨hemit, hp⟩ := h
  obtain ⟨hroom, hfull⟩ := exec_hdrEoi_appendsOrOverflows hemit.within
  refine hemit.advances (i := .hdrEoi) (ys := [0xFF#8, 0xD9#8]) (by rw [hp]; rfl) le_rfl (fun hr => ?_) hfull
  obtain ⟨u, hexec, hu, happ⟩ := hroom hr
  refine ⟨u, hexec, by rw [hu]; rfl, ?_, fun cap hcap => ?_⟩
  · rw [outBytes_of_appended happ, hemit.emitted]
    rfl
  · have hle := hr cap (hemit.outCap.trans hcap)
    rwa [hemit.outlen_eq, ← List.length_append] at hle

/-- Settles O50: with room for the result the run comes to HDR.EOI and one operation more; it ends its BUSY states there. -/
theorem encodeTakesElevenPlusEightN : Obligations.EncodeTakesElevenPlusEightN := by
  intro s u hs hok hfits hu
  cases eq_encoding_of_started hs hu
  obtain ⟨v, hruns, hv⟩ := (advances_beforeEoi hs hok).resolve_right fun hover => hover.1 hfits
  obtain ⟨t, hlast, hdone, -⟩ := hv.advances.resolve_right fun hover => hover.1 hfits
  have hcount : 11 + 8 * blockCount s = 10 + 8 * blockCount s + 1 := by omega
  rw [hcount]
  exact ⟨⟨t, runs_append hruns hlast, hdone⟩, fun k hk => busy_before hs.1 hruns hv.1.busy (Nat.le_of_lt_succ hk)⟩

/-- Settles O51: the run comes to DONE with the bytes, which then fit, or it overflows, and then they do not. -/
theorem encodeResultInClosedForm : Obligations.EncodeResultInClosedForm := by
  intro s u hs hok hu
  cases eq_encoding_of_started hs hu
  rcases (advances_beforeEoi hs hok).bind fun v hv => hv.advances with ⟨t, hruns, hdone, hbytes, hfits⟩ | ⟨hnot, hover⟩
  · exact ⟨fun _ => ⟨_, t, hruns, hdone, hbytes⟩, fun hnot => absurd hfits hnot⟩
  · exact ⟨fun hfits => absurd hfits hnot, fun _ => hover⟩

end Sys2Proof.Machine
end

section
/-! # The encode depends on its inputs only

Two encodes that agree on the parameters, the capacity and the image go through states that agree on all that an operation still
to come reads (`Agree`). -/

namespace Sys2Proof.Machine

open Sys2Proof.Spec

variable {s s' t t' u : State} {p q : Phase} {r r' : Res} {f g : State → Res} {R Q : State → State → Prop} {k : ℕ}

/-! ## Pairs of answers -/

/-- Both parts of an operation complete, in states that `R` relates, or both stop for one reason. -/
inductive Res.Both (R : State → State → Prop) : Res → Res → Prop
  | ok {u u' : State} (h : R u u') : Res.Both R (.ok u) (.ok u')
  | stop (e : Stop) : Res.Both R (.error e) (.error e)

theorem Res.Both.bind (h : Res.Both R r r') (hf : ∀ u u', R u u' → Res.Both Q (f u) (f u')) :
    Res.Both Q (r.bind f) (r'.bind f) := by
  cases h with
  | ok h => exact hf _ _ h
  | stop e => exact .stop e

theorem Res.Both.map {after : State → State} (h : Res.Both R r r') (hafter : ∀ u u', R u u' → Q (after u) (after u')) :
    Res.Both Q (r.map after) (r'.map after) := by
  cases h with
  | ok h => exact .ok (hafter _ _ h)
  | stop e => exact .stop e

/-- From states that `R` relates `f` gives answers that `R` relates. -/
def Respects (R : State → State → Prop) (f : State → Res) : Prop := ∀ s s', R s s' → Res.Both R (f s) (f s')

theorem respects_ok : Respects R .ok := fun _ _ h => .ok h

theorem Respects.bind (hf : Respects R f) (hg : Respects R g) : Respects R fun s => (f s).bind g :=
  fun s s' h => (hf s s' h).bind hg

theorem Respects.map {after : State → State} (hf : Respects R f) (hafter : ∀ u u', R u u' → R (after u) (after u')) :
    Respects R fun s => (f s).map after := fun s s' h => (hf s s' h).map hafter

/-! ## Emissions -/

/-- What an emission reads is equal in related states, and what it writes leaves them related. -/
structure Streamed (R : State → State → Prop) : Prop where
  outCap : ∀ s s', R s s' → s.outCap = s'.outCap
  outlen : ∀ s s', R s s' → s.outlen = s'.outlen
  acc : ∀ s s', R s s' → s.acc = s'.acc
  accn : ∀ s s', R s s' → s.accn = s'.accn
  pushOut : ∀ s s' b, R s s' → R (s.pushOut b) (s'.pushOut b)
  withBits : ∀ s s' acc accn, R s s' → R (s.withBits acc accn) (s'.withBits acc accn)

section
variable (hR : Streamed R)
include hR

theorem Streamed.append (b : Byte) : Respects R (append b) := fun s s' h => by
  have hfull : s.outFull = s'.outFull := by rw [State.outFull, State.outFull, hR.outCap s s' h, hR.outlen s s' h]
  cases hs : s.outFull with
  | true => rw [append_full hs, append_full (hfull ▸ hs), hR.outlen s s' h]; exact .stop _
  | false => rw [append_ok hs, append_ok (hfull ▸ hs)]; exact .ok (hR.pushOut s s' b h)

theorem Streamed.emit (bytes : List Byte) : Respects R (emit bytes) := by
  induction bytes with
  | nil => exact respects_ok
  | cons b bytes ih => exact (hR.append b).bind ih

theorem Streamed.drain (fuel : ℕ) : Respects R (drain fuel) := by
  induction fuel with
  | zero => exact respects_ok
  | succ fuel ih =>
    intro s s' h
    unfold Machine.drain
    rw [hR.acc s s' h, hR.accn s s' h]
    split
    · exact (hR.emit _).bind ih _ _ (hR.withBits s s' _ _ h)
    · exact .ok h

theorem Streamed.bwWrite (bits nbits : ℕ) : Respects R (bwWrite bits nbits) := fun s s' h => by
  unfold Machine.bwWrite
  dsimp only
  rw [hR.acc s s' h, hR.accn s s' h]
  exact hR.drain _ _ _ (hR.withBits s s' _ _ h)

theorem Streamed.writeCode (table : List (ℕ × Codeword)) (symbol : ℕ) : Respects R (writeCode table symbol) :=
  fun s s' h => by
  unfold Machine.writeCode
  split
  · exact .stop _
  · exact hR.bwWrite _ _ s s' h

theorem Streamed.writeMag (mag c : ℕ) : Respects R (writeMag mag c) := fun s s' h => by
  unfold Machine.writeMag
  split
  · exact hR.bwWrite mag c s s' h
  · exact .ok h

theorem Streamed.writeDc (category mag : ℕ) : Respects R (writeDc category mag) :=
  (hR.writeCode _ category).bind (hR.writeMag mag category)

theorem Streamed.writeAc (symbol mag : ℕ) : Respects R (writeAc symbol mag) :=
  (hR.writeCode _ symbol).bind (hR.writeMag mag _)

/-! ## The scan of ENT.AC -/

variable (hnz : ∀ s s', R s s' → s.nz = s'.nz) (hwith : ∀ s s' n, R s s' → R (s.withNz n) (s'.withNz n))
include hnz hwith

theorem Streamed.writeZrls (fuel : ℕ) : Respects R (writeZrls fuel) := by
  induction fuel with
  | zero => exact respects_ok
  | succ fuel ih =>
    intro s s' h
    unfold Machine.writeZrls
    rw [hnz s s' h]
    split
    · refine (hR.writeAc 0xF0 0 s s' h).bind fun u u' hu => ?_
      rw [hnz u u' hu]
      exact ih _ _ (hwith u u' _ hu)
    · exact .ok h

theorem Streamed.writeEntry (v : ℤ) : Respects R (writeEntry v) := fun s s' h => by
  unfold Machine.writeEntry
  rw [hnz s s' h]
  refine (hR.writeZrls hnz hwith _ s s' h).bind fun u u' hu => ?_
  dsimp only
  rw [hnz u u' hu]
  split
  · exact .stop _
  · exact (hR.writeAc _ _ u u' hu).map fun t t' ht => hwith t t' 0 ht

theorem Streamed.scanAc (entries : List ℤ) : Respects R (scanAc entries) := by
  induction entries with
  | nil => exact respects_ok
  | cons v rest ih =>
    intro s s' h
    unfold Machine.scanAc
    split
    · rw [hnz s s' h]
      exact ih _ _ (hwith s s' _ h)
    · exact (hR.writeEntry hnz hwith v).bind ih s s' h

end

/-! ## The states of two encodes -/

/-- The phases at which the entries wait for the entropy coder. -/
def entropyPhases : List Phase := [.entDc, .entAc, .entEob]

/-- What is known, or held in a buffer, in part of the encode only: the phases of each such part. -/
def liveParts : List (List Phase) := [checkedPhases, tablePhases, [.fdct], [.quant], [.zigzag], entropyPhases]

/-- Two states of encodes agree on what an operation of any PHASE may read: the parameters, the image, the capacity, the
control registers, the cursor, the predictor and the stream (R316). -/
structure Agree (s s' : State) : Prop where
  inputs : s.inputs = [] ∧ s'.inputs = []
  width : s.width = s'.width
  height : s.height = s'.height
  quality : s.quality = s'.quality
  outCap : s.outCap = s'.outCap
  img : ∀ a, a < s.width.toNat * s.height.toNat → s.img.read Config.imgPowerOn a = s'.img.read Config.imgPowerOn a
  torn : s.torn = [] ∧ s'.torn = []
  status : s.status = s'.status
  errCode : s.errCode = s'.errCode
  errInfo : s.errInfo = s'.errInfo
  blkX : s.blkX = s'.blkX
  blkY : s.blkY = s'.blkY
  aligned : s.blkX.toNat % 8 = 0 ∧ s.blkY.toNat % 8 = 0
  pred : s.pred = s'.pred
  acc : s.acc = s'.acc
  accn : s.accn = s'.accn
  outlen : s.outlen = s'.outlen
  bytes : ∀ a, a < s.outlen → outByte s a = outByte s' a

/-- And they agree on all else that the operations from PHASE `p` on read: a buffer, from its writer on to its reader. Past
SEQ.CHECK the dimensions are legal. -/
structure AgreeAt (p : Phase) (s s' : State) : Prop extends Agree s s' where
  dimensions : p ∈ checkedPhases → legalDimension s.width = true ∧ legalDimension s.height = true
  qt : p ∈ tablePhases → s.qt = s'.qt := by exact fun h => absurd h (by decide)
  samp : p ∈ [Phase.fdct] → s.samp = s'.samp := by exact fun h => absurd h (by decide)
  coef : p ∈ [Phase.quant] → s.coef = s'.coef := by exact fun h => absurd h (by decide)
  quo : p ∈ [Phase.zigzag] → s.quo = s'.quo := by exact fun h => absurd h (by decide)
  entries : p ∈ entropyPhases → s.zz = s'.zz ∧ s.len = s'.len := by exact fun h => absurd h (by decide)

/-- Two states at the same PHASE that agree on what is still to be read. -/
def Alike (s s' : State) : Prop := s.phase = s'.phase ∧ AgreeAt s.phase s s'

/-- A PHASE that no more is live at asks no more. -/
theorem AgreeAt.at (h : AgreeAt p s s') (hpart : ∀ part ∈ liveParts, q ∈ part → p ∈ part) : AgreeAt q s s' :=
  { h with
    dimensions := fun hq => h.dimensions (hpart checkedPhases (by simp [liveParts]) hq)
    qt := fun hq => h.qt (hpart tablePhases (by simp [liveParts]) hq)
    samp := fun hq => h.samp (hpart [.fdct] (by simp [liveParts]) hq)
    coef := fun hq => h.coef (hpart [.quant] (by simp [liveParts]) hq)
    quo := fun hq => h.quo (hpart [.zigzag] (by simp [liveParts]) hq)
    entries := fun hq => h.entries (hpart entropyPhases (by simp [liveParts]) hq) }

/-- At a PHASE where nothing is live nothing more is asked. -/
theorem AgreeAt.at_end (h : AgreeAt p s s') (hend : ∀ part ∈ liveParts, q ∉ part) : AgreeAt q s s' :=
  h.at fun part hpart hq => absurd hq (hend part hpart)

theorem AgreeAt.goto (h : AgreeAt q s s') : Alike (s.goto q) (s'.goto q) := ⟨rfl, { h with }⟩

theorem streamed_agree (p : Phase) : Streamed (AgreeAt p) where
  outCap _ _ h := h.outCap
  outlen _ _ h := h.outlen
  acc _ _ h := h.acc
  accn _ _ h := h.accn
  withBits _ _ _ _ h := { h with acc := rfl, accn := rfl }
  pushOut s s' b h :=
  { h with
    outlen := congrArg (· + 1) h.outlen
    bytes := fun a ha => by
      by_cases hlast : a = s.outlen
      · subst hlast
        rw [outByte_pushOut_same, h.outlen, outByte_pushOut_same]
      · have hlt : a < s.outlen := Nat.lt_of_le_of_ne (Nat.le_of_lt_succ ha) hlast
        rw [outByte_pushOut_other _ _ _ hlast, outByte_pushOut_other _ _ _ (h.outlen ▸ hlast), h.bytes a hlt] }

/-! ## The operations of two encodes -/

/-- If `r` answers a next state then `r'` does, and the two are alike. -/
def Follows (r r' : Result) : Prop := ∀ t, r = .next t → ∃ t', r' = .next t' ∧ Alike t t'

theorem follows_next (h : Alike t t') : Follows (.next t) (.next t') := fun _ hn => ⟨t', rfl, by cases hn; exact h⟩

theorem AgreeAt.takeError (h : AgreeAt p s s') (e : Raise) : Alike (s.takeError e) (s'.takeError e) :=
  ⟨rfl, { h.at_end (q := .error) (by decide) with status := rfl, errCode := rfl, errInfo := rfl }⟩

theorem AgreeAt.seqDone (h : AgreeAt p s s') : Alike s.seqDone s'.seqDone :=
  ⟨rfl, { h.at_end (q := .done) (by decide) with status := rfl }⟩

/-- Parts of operations that complete or stop together, from states that agree. -/
theorem Res.Both.finish (hr : Res.Both Alike r r') (h : AgreeAt p s s') : Follows (finish s r) (finish s' r') := by
  cases hr with
  | ok hu => exact follows_next hu
  | stop e =>
    cases e with
    | raise e => exact follows_next (h.takeError e)
    | fault f => exact fun t hn => by cases hn

/-- An emission, and the move of PHASE after it. -/
theorem Respects.finish_goto (hf : Respects (AgreeAt p) f) (h : AgreeAt p s s') (hu : AgreeAt p t t')
    (hpart : ∀ part ∈ liveParts, q ∈ part → p ∈ part) :
    Follows (finish s (Res.goto (f t) q)) (finish s' (Res.goto (f t') q)) := by
  have hboth : Res.Both Alike ((f t).map (State.goto · q)) ((f t').map (State.goto · q)) :=
    (hf t t' hu).map fun _ _ hv => (hv.at hpart).goto
  exact hboth.finish h

theorem AgreeAt.header (h : AgreeAt p s s') (bytes : List Byte) (hpart : ∀ part ∈ liveParts, q ∈ part → p ∈ part) :
    Follows (header bytes q s) (header bytes q s') := ((streamed_agree p).emit bytes).finish_goto h h hpart

theorem AgreeAt.seqCheck (h : AgreeAt .check s s') : Follows (execSeqCheck s) (execSeqCheck s') := by
  refine Res.Both.finish ?_ h
  rw [← h.width, ← h.height]
  split
  · rename_i hlegal
    rw [Bool.and_eq_true] at hlegal
    exact .ok (AgreeAt.goto { h.toAgree with dimensions := fun _ => hlegal })
  · exact .stop _

theorem AgreeAt.qtbBuild (h : AgreeAt .qtb s s') : Follows (execQtbBuild s) (execQtbBuild s') := by
  refine Res.Both.finish ?_ h
  rw [← h.quality]
  split
  · exact .stop _
  · exact .ok (AgreeAt.goto { h.toAgree with
      quality := rfl, dimensions := fun _ => h.dimensions (by decide), qt := fun _ => rfl })

/-- Inside the image the addresses of a block's samples are addresses of the image (R82, R184). -/
theorem sample_lt {x y w h : ℕ} (hw : w % 8 = 0) (hh : h % 8 = 0) (hx8 : x % 8 = 0) (hy8 : y % 8 = 0) (hx : x < w) (hy : y < h)
    (i : Fin 64) : (y + i.val / 8) * w + (x + i.val % 8) < w * h := by
  have hrow : y + i.val / 8 + 1 ≤ h := by omega
  have hcol : x + i.val % 8 < w := by omega
  calc (y + i.val / 8) * w + (x + i.val % 8)
    _ < (y + i.val / 8) * w + w := by omega
    _ = w * (y + i.val / 8 + 1) := by ring
    _ ≤ w * h := Nat.mul_le_mul_left w hrow

theorem AgreeAt.fetchBlock_eq (h : AgreeAt .blkFetch s s') (hin : s.blkX < s.width ∧ s.blkY < s.height) :
    fetchBlock s = fetchBlock s' := by
  obtain ⟨hw, hh⟩ := h.dimensions (by decide)
  obtain ⟨hx8, hy8⟩ := h.aligned
  rw [legalDimension_iff] at hw hh
  have hbyte {addr : ℕ} (haddr : addr < s.width.toNat * s.height.toNat) : imgByte s addr = imgByte s' addr := by
    rw [imgByte_of_not_torn (by rw [tornAt, h.torn.1]; rfl), imgByte_of_not_torn (by rw [tornAt, h.torn.2]; rfl),
      h.img addr haddr]
  refine congrArg tabulate (funext fun i => ?_)
  rw [imgRead, imgRead, imgAddr, imgAddr, ← h.blkX, ← h.blkY, ← h.width]
  exact hbyte (sample_lt hw.2 hh.2 hx8 hy8 hin.1 hin.2 i)

theorem AgreeAt.blkFetch (h : AgreeAt .blkFetch s s') : Follows (execBlkFetch s) (execBlkFetch s') := by
  by_cases hin : s.blkX < s.width ∧ s.blkY < s.height
  · have hin' : s'.blkX < s'.width ∧ s'.blkY < s'.height := by rwa [← h.blkX, ← h.blkY, ← h.width, ← h.height]
    rw [execBlkFetch_inside hin, execBlkFetch_inside hin']
    exact follows_next (AgreeAt.goto { h.toAgree with
      dimensions := fun _ => h.dimensions (by decide), qt := fun _ => h.qt (by decide)
      samp := fun _ => h.fetchBlock_eq hin })
  · rw [execBlkFetch_outside hin]
    exact fun t hn => by cases hn

theorem AgreeAt.fdct (h : AgreeAt .fdct s s') : Follows (execFdct s) (execFdct s') :=
  follows_next (AgreeAt.goto { h.toAgree with
    dimensions := fun _ => h.dimensions (by decide), qt := fun _ => h.qt (by decide)
    coef := fun _ => congrArg dctBlock (h.samp (by decide)) })

theorem AgreeAt.quant (h : AgreeAt .quant s s') : Follows (execQuant s) (execQuant s') := by
  have hqt := h.qt (by decide)
  have hquo : quotients s = quotients s' := by rw [quotients, quotients, hqt, h.coef (by decide)]
  refine Res.Both.finish ?_ h
  rw [← hqt]
  split
  · exact .stop _
  · exact .ok (AgreeAt.goto { h.toAgree with
      dimensions := fun _ => h.dimensions (by decide), qt := fun _ => rfl, quo := fun _ => hquo })

theorem AgreeAt.zigzag (h : AgreeAt .zigzag s s') : Follows (execZigzag s) (execZigzag s') := by
  have hquo := h.quo (by decide)
  exact follows_next (AgreeAt.goto { h.toAgree with
    dimensions := fun _ => h.dimensions (by decide), qt := fun _ => h.qt (by decide)
    entries := fun _ => by rw [hquo]; exact ⟨rfl, rfl⟩ })

theorem AgreeAt.entDc (h : AgreeAt .entDc s s') : Follows (execEntDc s) (execEntDc s') := by
  obtain ⟨hzz, hlen⟩ := h.entries (by decide)
  unfold execEntDc
  rw [← hzz, ← hlen, ← h.pred]
  exact ((streamed_agree .entDc).writeDc _ _).finish_goto h { h with pred := rfl } (by decide)

theorem AgreeAt.entAc (h : AgreeAt .entAc s s') : Follows (execEntAc s) (execEntAc s') := by
  obtain ⟨hzz, hlen⟩ := h.entries (by decide)
  have hscanned : scannedEntries s = scannedEntries s' := by rw [scannedEntries, scannedEntries, hzz, hlen]
  have hR : Streamed fun u u' => AgreeAt .entAc u u' ∧ u.nz = u'.nz :=
    have hA := streamed_agree .entAc
    { outCap := fun _ _ hu => hA.outCap _ _ hu.1, outlen := fun _ _ hu => hA.outlen _ _ hu.1
      acc := fun _ _ hu => hA.acc _ _ hu.1, accn := fun _ _ hu => hA.accn _ _ hu.1
      pushOut := fun _ _ b hu => ⟨hA.pushOut _ _ b hu.1, hu.2⟩
      withBits := fun _ _ acc accn hu => ⟨hA.withBits _ _ acc accn hu.1, hu.2⟩ }
  have hscan := hR.scanAc (fun _ _ hu => hu.2) (fun _ _ n hu => ⟨{ hu.1 with }, rfl⟩) (scannedEntries s)
    (s.withNz 0) (s'.withNz 0) ⟨{ h with }, rfl⟩
  have hboth := hscan.map (after := (State.goto · .entEob)) fun _ _ hu => (hu.1.at (q := .entEob) (by decide)).goto
  unfold execEntAc
  rw [← hscanned]
  exact hboth.finish h

theorem AgreeAt.entEob (h : AgreeAt .entEob s s') : Follows (execEntEob s) (execEntEob s') := by
  obtain ⟨-, hlen⟩ := h.entries (by decide)
  have hf : Respects (AgreeAt .entEob) fun u => if s.len.val < 64 then writeAc 0x00 0 u else .ok u := by
    split
    · exact (streamed_agree .entEob).writeAc 0x00 0
    · exact respects_ok
  unfold execEntEob
  rw [← hlen]
  exact hf.finish_goto h h (by decide)

theorem AgreeAt.blkNext (h : AgreeAt .blkNext s s') : Follows (execBlkNext s) (execBlkNext s') := by
  have hmove (x y : BitVec 16) (hx : x.toNat % 8 = 0) (hy : y.toNat % 8 = 0) :
      Alike (s.moveCursor x y) (s'.moveCursor x y) := by
    have hmoved (q : Phase) (hpart : ∀ part ∈ liveParts, q ∈ part → .blkNext ∈ part) :
        Alike ({ s with blkX := x, blkY := y }.goto q) ({ s' with blkX := x, blkY := y }.goto q) :=
      AgreeAt.goto { h.at hpart with blkX := rfl, blkY := rfl, aligned := ⟨hx, hy⟩ }
    unfold State.moveCursor
    by_cases hend : y = s.height
    · rw [if_pos hend, if_pos (hend.trans h.height)]
      exact hmoved .bwFinal (by decide)
    · rw [if_neg hend, if_neg (h.height ▸ hend)]
      exact hmoved .blkFetch (by decide)
  unfold execBlkNext
  rw [← h.blkX, ← h.blkY, ← h.width]
  split
  · exact follows_next (hmove _ _ rfl (anchor_add_aligned h.aligned.2))
  · exact follows_next (hmove _ _ (anchor_add_aligned h.aligned.1) h.aligned.2)

theorem AgreeAt.bwFinalize (h : AgreeAt .bwFinal s s') : Follows (execBwFinalize s) (execBwFinalize s') :=
  follows_next ((streamed_agree .bwFinal).withBits s s' 0 0 h |>.at (q := .hdrEoi) (by decide)).goto

theorem AgreeAt.hdrEoi (h : AgreeAt .hdrEoi s s') : Follows (execHdrEoi s) (execHdrEoi s') :=
  Res.Both.finish (((streamed_agree .hdrEoi).emit _ s s' h).map fun _ _ hu => hu.seqDone) h

/-! ## Two encodes -/

/-- The operation of PHASE takes states that are alike to states that are alike. -/
theorem Alike.operation {i : Instr} (h : Alike s s') (hi : (transition s.phase).operation = some i) :
    Follows (exec i s) (exec i s') := by
  obtain ⟨-, hat⟩ := h
  generalize s.phase = p at hat hi
  cases p <;> cases hi
  case check => exact hat.seqCheck
  case qtb => exact hat.qtbBuild
  case hdrSoi | hdrApp0 | hdrDhtDc | hdrDhtAc | hdrSos => exact hat.header _ (by decide)
  case hdrDqt =>
    change Follows (execHdrDqt s) (execHdrDqt s')
    unfold execHdrDqt
    rw [← hat.qt (by decide)]
    exact hat.header _ (by decide)
  case hdrSof0 =>
    change Follows (execHdrSof0 s) (execHdrSof0 s')
    unfold execHdrSof0
    rw [← hat.width, ← hat.height]
    exact hat.header _ (by decide)
  case blkFetch => exact hat.blkFetch
  case fdct => exact hat.fdct
  case quant => exact hat.quant
  case zigzag => exact hat.zigzag
  case entDc => exact hat.entDc
  case entAc => exact hat.entAc
  case entEob => exact hat.entEob
  case blkNext => exact hat.blkNext
  case bwFinal => exact hat.bwFinalize
  case hdrEoi => exact hat.hdrEoi

theorem Alike.step (h : Alike s s') : Follows (step s) (step s') := by
  have ⟨hphase, hat⟩ := h
  obtain ⟨hin, hin'⟩ := hat.inputs
  cases hop : (transition s.phase).operation with
  | none =>
    rw [step_turn hin, step_turn hin', sequencerTurn_quiescent hop, sequencerTurn_quiescent (hphase ▸ hop)]
    exact follows_next h
  | some i =>
    by_cases hbusy : s.status = .busy
    · rw [step_busy hin hbusy hop, step_busy hin' (hat.status ▸ hbusy) (hphase ▸ hop)]
      exact h.operation hop
    · rw [step_turn hin, step_turn hin', sequencerTurn_notBusy (decide_eq_false hbusy),
        sequencerTurn_notBusy (decide_eq_false (hat.status ▸ hbusy))]
      exact follows_next h

theorem Alike.runs (h : Alike s s') (hruns : Runs k s t) : ∃ t', Runs k s' t' ∧ Alike t t' := by
  induction k generalizing s s' with
  | zero => exact ⟨s', runs_zero.mpr rfl, runs_zero.mp hruns ▸ h⟩
  | succ k ih =>
    obtain ⟨u, hstep, hrest⟩ := runs_succ.mp hruns
    obtain ⟨u', hstep', hu⟩ := h.step u hstep
    obtain ⟨t', hrest', ht⟩ := ih hu hrest
    exact ⟨t', runs_succ.mpr ⟨u', hstep', hrest'⟩, ht⟩

theorem Agree.outBytes_eq (h : Agree s s') : outBytes s = outBytes s' := by
  rw [outBytes, outBytes, ← h.outlen]
  exact List.map_congr_left fun a ha => h.bytes a (List.mem_range.mp ha)

/-- Settles O52: ENCODE leaves the two states alike, and every step keeps them so. -/
theorem encodeDependsOnItsInputsOnly : Obligations.EncodeDependsOnItsInputsOnly := by
  intro s s' u u' hs hs' hw hh hq hcap himg hu hu' k t hruns
  cases eq_encoding_of_started hs hu
  cases eq_encoding_of_started hs' hu'
  have hstart : AgreeAt .check s.encoding s'.encoding :=
    { inputs := ⟨hs.1, hs'.1⟩, width := hw, height := hh, quality := hq, outCap := hcap, img := himg, torn := ⟨rfl, rfl⟩
      status := rfl, errCode := rfl, errInfo := rfl, blkX := rfl, blkY := rfl, aligned := ⟨rfl, rfl⟩, pred := rfl, acc := rfl
      accn := rfl, outlen := rfl, bytes := fun _ ha => absurd ha (Nat.not_lt_zero _)
      dimensions := fun hp => absurd hp (by decide) }
  have halike : Alike s.encoding s'.encoding := ⟨rfl, hstart⟩
  obtain ⟨t', hruns', -, hat⟩ := halike.runs hruns
  exact ⟨t', hruns', hat.status, hat.errCode, hat.errInfo, fun _ => hat.outBytes_eq⟩

end Sys2Proof.Machine
end

section
/-! # The reset input, and what is recorded on entering ERROR (60_exceptions.md, 70_reset_and_hazards.md) -/

namespace Sys2Proof.Machine

variable {s t : State} {r : Res} {i : Instr} {e : Raise}

/-! ## The reset input -/

/-- Settles O9: the step is the reset access, which answers `State.hardwareReset`. -/
theorem resetInputAbandonsTheEncode : Obligations.ResetInputAbandonsTheEncode := fun s rest hin =>
  ⟨(s.withInputs rest).hardwareReset, step_host hin, rfl, rfl, rfl, rfl, rfl, rfl, rfl, rfl, rfl, rfl, rfl, rfl, rfl, rfl,
    rfl, rfl⟩

/-! ## The overflow that the next appends can meet -/

/-- The OUTPUT_OVERFLOW that appending from `s` on would raise: its value is OUTLEN at the failing append, which is OUT_CAP, or
the OUTLEN of `s` where that is beyond (R266, R344). An unbounded OUT has none. -/
def State.overflowRaise (s : State) : Option Raise :=
  s.outCap.map fun cap => ⟨.outputOverflow, BitVec.ofNat 32 (max cap s.outlen)⟩

theorem overflowRaise_of_full (h : s.outFull = true) : s.overflowRaise = some ⟨.outputOverflow, BitVec.ofNat 32 s.outlen⟩ := by
  unfold State.outFull at h
  unfold State.overflowRaise
  cases hcap : s.outCap with
  | none => simp [hcap] at h
  | some cap =>
    have hle : cap ≤ s.outlen := by simpa [hcap] using h
    rw [Option.map_some, max_eq_right hle]

/-- An append that has room leaves the overflow ahead as it was. -/
theorem overflowRaise_pushOut (h : s.outFull = false) (b : Byte) : (s.pushOut b).overflowRaise = s.overflowRaise := by
  unfold State.outFull at h
  unfold State.overflowRaise
  rw [State.pushOut_outCap, State.pushOut_outlen]
  cases hcap : s.outCap with
  | none => rfl
  | some cap =>
    have hlt : s.outlen < cap := by simpa [hcap] using h
    rw [Option.map_some, Option.map_some, max_eq_left hlt.le, max_eq_left (Nat.succ_le_of_lt hlt)]

/-- A part of an operation from `s` that raises nothing but the overflow ahead of `s`. Where it completes, STATUS has not become
ERROR and the overflow ahead is the same. -/
def Res.OverflowsFrom (s : State) : Res → Prop
  | .ok u => (u.status = .error → s.status = .error) ∧ u.overflowRaise = s.overflowRaise
  | .error (.raise e) => s.overflowRaise = some e
  | .error (.fault _) => True

theorem overflowsFrom_ok (s : State) : Res.OverflowsFrom s (.ok s) := ⟨id, rfl⟩

theorem Res.OverflowsFrom.bind {f : State → Res} (h : r.OverflowsFrom s) (hf : ∀ u, (f u).OverflowsFrom u) :
    Res.OverflowsFrom s (r.bind f) :=
  match r, h with
  | .error (.raise _), h => h
  | .error (.fault _), _ => trivial
  | .ok u, ⟨hstatus, hover⟩ => by
    have hu := hf u
    change (f u).OverflowsFrom s
    cases hfu : f u with
    | ok v =>
      rw [hfu] at hu
      exact ⟨hstatus ∘ hu.1, hu.2.trans hover⟩
    | error stop =>
      rw [hfu] at hu
      cases stop with
      | raise e => exact hover.symm.trans hu
      | fault f => trivial

theorem Res.OverflowsFrom.map {after : State → State} (h : r.OverflowsFrom s)
    (hafter : ∀ u, Res.OverflowsFrom u (.ok (after u))) : Res.OverflowsFrom s (r.map after) :=
  h.bind (f := fun u => .ok (after u)) hafter

theorem Res.OverflowsFrom.goto (h : r.OverflowsFrom s) (p : Phase) : (r.goto p).OverflowsFrom s :=
  h.map fun _ => ⟨id, rfl⟩

/-! The overflow ahead depends on OUTLEN and OUT_CAP alone, STATUS is no part of these updates. -/

theorem Res.OverflowsFrom.of_withBits {acc accn : ℕ} (h : r.OverflowsFrom (s.withBits acc accn)) : r.OverflowsFrom s := h

theorem Res.OverflowsFrom.of_withNz {n : ℕ} (h : r.OverflowsFrom (s.withNz n)) : r.OverflowsFrom s := h

theorem Res.OverflowsFrom.of_withPred {v : ℤ} (h : r.OverflowsFrom (s.withPred v)) : r.OverflowsFrom s := h

/-! ### Emissions -/

theorem append_overflowsFrom (b : Byte) (s : State) : (append b s).OverflowsFrom s := by
  cases hf : s.outFull with
  | true =>
    rw [append_full hf]
    exact overflowRaise_of_full hf
  | false =>
    rw [append_ok hf]
    exact ⟨id, overflowRaise_pushOut hf b⟩

theorem emit_overflowsFrom (bytes : List Byte) (s : State) : (emit bytes s).OverflowsFrom s := by
  induction bytes generalizing s with
  | nil => exact overflowsFrom_ok s
  | cons b bytes ih => exact (append_overflowsFrom b s).bind ih

theorem drain_overflowsFrom (fuel : ℕ) (s : State) : (drain fuel s).OverflowsFrom s := by
  induction fuel generalizing s with
  | zero => exact overflowsFrom_ok s
  | succ fuel ih =>
    unfold drain
    split
    · exact (emit_overflowsFrom _ _).of_withBits.bind ih
    · exact overflowsFrom_ok s

theorem bwWrite_overflowsFrom (bits nbits : ℕ) (s : State) : (bwWrite bits nbits s).OverflowsFrom s :=
  (drain_overflowsFrom _ _).of_withBits

/-! ### Coded items -/

theorem writeCode_overflowsFrom (table : List (ℕ × Codeword)) (symbol : ℕ) (s : State) :
    (writeCode table symbol s).OverflowsFrom s := by
  unfold writeCode
  split
  · trivial
  · exact bwWrite_overflowsFrom _ _ s

theorem writeMag_overflowsFrom (mag c : ℕ) (s : State) : (writeMag mag c s).OverflowsFrom s := by
  unfold writeMag
  split
  · exact bwWrite_overflowsFrom mag c s
  · exact overflowsFrom_ok s

theorem writeDc_overflowsFrom (category mag : ℕ) (s : State) : (writeDc category mag s).OverflowsFrom s :=
  (writeCode_overflowsFrom _ category s).bind (writeMag_overflowsFrom mag category)

theorem writeAc_overflowsFrom (symbol mag : ℕ) (s : State) : (writeAc symbol mag s).OverflowsFrom s :=
  (writeCode_overflowsFrom _ symbol s).bind (writeMag_overflowsFrom mag (acSize symbol))

/-! ### The scan of ENT.AC -/

theorem writeZrls_overflowsFrom (fuel : ℕ) (s : State) : (writeZrls fuel s).OverflowsFrom s := by
  induction fuel generalizing s with
  | zero => exact overflowsFrom_ok s
  | succ fuel ih =>
    unfold writeZrls
    split
    · exact (writeAc_overflowsFrom 0xF0 0 s).bind fun u => (ih _).of_withNz
    · exact overflowsFrom_ok s

theorem writeEntry_overflowsFrom (v : ℤ) (s : State) : (writeEntry v s).OverflowsFrom s := by
  refine (writeZrls_overflowsFrom _ s).bind fun u => ?_
  dsimp only
  split
  · trivial
  · exact (writeAc_overflowsFrom _ _ u).map fun _ => ⟨id, rfl⟩

theorem scanAc_overflowsFrom (entries : List ℤ) (s : State) : (scanAc entries s).OverflowsFrom s := by
  induction entries generalizing s with
  | nil => exact overflowsFrom_ok s
  | cons v rest ih =>
    unfold scanAc
    split
    · exact (ih _).of_withNz
    · exact (writeEntry_overflowsFrom v s).bind ih

/-! ## The exception of an operation -/

/-- The exceptions that operation `i` can take from `s`, with the values they record (R340 to R344). -/
inductive ErrorCause (s : State) : Instr → Raise → Prop
  | invalidDimension : ErrorCause s .seqCheck ⟨.invalidDimension, s.height ++ s.width⟩
  | invalidQuality : ErrorCause s .qtbBuild ⟨.invalidQuality, BitVec.ofInt 32 s.quality.toInt⟩
  | degenerateQuantEntry {k : Fin 64} (h : zeroEntry s.qt = some k) :
      ErrorCause s .quant ⟨.degenerateQuantEntry, BitVec.ofNat 32 k.val⟩
  | outputOverflow {i : Instr} {e : Raise} (h : s.overflowRaise = some e) : ErrorCause s i e

/-- Where operation `i` answers a state in ERROR that it did not begin in, that state is the error entry for one of its
exceptions. -/
def EntersErrorByCause (i : Instr) (s : State) (r : Result) : Prop :=
  ∀ t, r = .next t → t.status = .error → s.status = .error ∨ ∃ e, ErrorCause s i e ∧ t = s.takeError e

theorem entersErrorByCause_next (h : t.status = .error → s.status = .error) : EntersErrorByCause i s (.next t) := by
  intro u hu herr
  cases hu
  exact .inl (h herr)

theorem entersErrorByCause_takeError (h : ErrorCause s i e) : EntersErrorByCause i s (.next (s.takeError e)) := by
  intro u hu _
  cases hu
  exact .inr ⟨e, h, rfl⟩

theorem entersErrorByCause_fault (f : Fault) : EntersErrorByCause i s (.fault f) := fun _ hn => nomatch hn

theorem Res.OverflowsFrom.finish (h : r.OverflowsFrom s) : EntersErrorByCause i s (finish s r) :=
  match r, h with
  | .ok _, h => entersErrorByCause_next h.1
  | .error (.raise _), h => entersErrorByCause_takeError (.outputOverflow h)
  | .error (.fault _), _ => entersErrorByCause_fault _

theorem execEncode_entersErrorByCause (d : BitVec 31) (s : State) : EntersErrorByCause i s (execEncode d s) := by
  unfold execEncode
  split
  · exact entersErrorByCause_next id
  · exact entersErrorByCause_next nofun

theorem exec_seqCheck_entersErrorByCause (s : State) : EntersErrorByCause .seqCheck s (exec .seqCheck s) := by
  by_cases hlegal : legalDimension s.width = true ∧ legalDimension s.height = true
  · rw [exec_seqCheck_legal hlegal.1 hlegal.2]
    exact entersErrorByCause_next id
  · rw [exec_seqCheck_illegal hlegal]
    exact entersErrorByCause_takeError .invalidDimension

theorem exec_qtbBuild_entersErrorByCause (s : State) : EntersErrorByCause .qtbBuild s (exec .qtbBuild s) := by
  rcases lt_or_ge 0 s.quality.toInt with hq | hq
  · rw [exec_qtbBuild hq]
    exact entersErrorByCause_next id
  · rw [exec_qtbBuild_invalid hq]
    exact entersErrorByCause_takeError .invalidQuality

theorem exec_blkFetch_entersErrorByCause (s : State) : EntersErrorByCause .blkFetch s (exec .blkFetch s) := by
  by_cases hinside : s.blkX < s.width ∧ s.blkY < s.height
  · rw [show exec .blkFetch s = _ from execBlkFetch_inside hinside]
    exact entersErrorByCause_next id
  · rw [show exec .blkFetch s = _ from execBlkFetch_outside hinside]
    exact entersErrorByCause_fault _

theorem exec_quant_entersErrorByCause (s : State) : EntersErrorByCause .quant s (exec .quant s) := by
  cases hzero : zeroEntry s.qt with
  | none =>
    rw [exec_quant_of_noZero hzero]
    exact entersErrorByCause_next id
  | some k =>
    rw [exec_quant_degenerate hzero]
    exact entersErrorByCause_takeError (.degenerateQuantEntry hzero)

theorem execEntDc_entersErrorByCause (s : State) : EntersErrorByCause i s (execEntDc s) :=
  ((writeDc_overflowsFrom _ _ _).of_withPred.goto .entAc).finish

theorem execEntAc_entersErrorByCause (s : State) : EntersErrorByCause i s (execEntAc s) :=
  ((scanAc_overflowsFrom _ _).of_withNz.goto .entEob).finish

theorem execEntEob_entersErrorByCause (s : State) : EntersErrorByCause i s (execEntEob s) := by
  refine (Res.OverflowsFrom.goto ?_ .blkNext).finish
  split
  · exact writeAc_overflowsFrom 0x00 0 s
  · exact overflowsFrom_ok s

theorem execHdrEoi_entersErrorByCause (s : State) : EntersErrorByCause i s (execHdrEoi s) :=
  ((emit_overflowsFrom _ s).map (after := State.seqDone) fun _ => ⟨nofun, rfl⟩).finish

/-- Every row of the opcode table enters ERROR by one of its exceptions only. -/
theorem exec_entersErrorByCause (i : Instr) (s : State) : EntersErrorByCause i s (exec i s) := by
  cases i with
  | encode d => exact execEncode_entersErrorByCause d s
  | seqCheck => exact exec_seqCheck_entersErrorByCause s
  | qtbBuild => exact exec_qtbBuild_entersErrorByCause s
  | hdrSoi | hdrApp0 | hdrDqt | hdrSof0 | hdrDhtDc | hdrDhtAc | hdrSos =>
    exact ((emit_overflowsFrom _ s).goto _).finish
  | blkFetch => exact exec_blkFetch_entersErrorByCause s
  | quant => exact exec_quant_entersErrorByCause s
  | entDc => exact execEntDc_entersErrorByCause s
  | entAc => exact execEntAc_entersErrorByCause s
  | entEob => exact execEntEob_entersErrorByCause s
  | hdrEoi => exact execHdrEoi_entersErrorByCause s
  | fdct | zigzag | bwFinalize => exact entersErrorByCause_next id
  | seqDone => exact entersErrorByCause_next nofun
  | blkNext =>
    obtain ⟨x, y, hmove⟩ := exec_blkNext s
    rw [hmove]
    exact entersErrorByCause_next id
  | bwWrite bits nbits => exact (bwWrite_overflowsFrom bits nbits s).finish
  | outAppend byte => exact (append_overflowsFrom byte s).finish
  | markerSoi | markerApp0 | markerDqt | markerSof0 | markerDht | markerSos | markerEoi | stuff =>
    exact (emit_overflowsFrom _ s).finish
  | dcCat0 | dcCat1 | dcCat2 | dcCat3 | dcCat4 | dcCat5 | dcCat6 | dcCat7 | dcCat8 | dcCat9 | dcCat10 | dcCat11 =>
    exact (writeDc_overflowsFrom _ _ s).finish
  | _ => exact (writeAc_overflowsFrom _ _ s).finish

/-- Both halves of OUTLEN read 0 in ERROR (R39). -/
theorem regValue_outlen_of_error (h : t.status = .error) : regValue t 0x1C = 0 ∧ regValue t 0x20 = 0 := by
  have hdone : t.status ≠ .done := by rw [h]; decide
  constructor <;> apply BitVec.eq_of_toNat_eq
  · exact (regValue_outlenLo t).trans (if_neg hdone)
  · exact (regValue_outlenHi t).trans (if_neg hdone)

/-- Settles O12: ERROR is entered by `State.takeError` from the state before, for one of the four causes. -/
theorem errorEntryAbandonsTheOperation : Obligations.ErrorEntryAbandonsTheOperation := by
  intro i s t hs h ht
  obtain ⟨e, hcause, rfl⟩ := (exec_entersErrorByCause i s t h ht).resolve_left hs
  obtain ⟨hlo, hhi⟩ := regValue_outlen_of_error ht
  refine ⟨rfl, hlo, hhi, ?_⟩
  cases hcause with
  | invalidDimension => exact .inl ⟨rfl, rfl, append_eq_ofNat s.height s.width⟩
  | invalidQuality => exact .inr (.inl ⟨rfl, rfl, rfl⟩)
  | degenerateQuantEntry hzero =>
    obtain ⟨hk, hleast⟩ := zeroEntry_some hzero
    exact .inr (.inr (.inl ⟨rfl, rfl, _, rfl, hk, hleast⟩))
  | outputOverflow hover =>
    obtain ⟨cap, hcap, rfl⟩ := Option.map_eq_some_iff.mp hover
    exact .inr (.inr (.inr ⟨rfl, cap, hcap, rfl⟩))

end Sys2Proof.Machine
end
